-- ==== Sys2Proof/Word.lean ====
section
/-! DEFINITION. The words of the block (00_scope.md R8, R11): unsigned, bit 0 the least significant. -/

namespace Sys2Proof

/-- The configuration word `SW` (30_encoding.md R50): one length, 4 bits. -/
abbrev SwWord := BitVec 4

/-- The 2-bit index into the two constant tables (30_encoding.md R54, R55). -/
abbrev Speed := BitVec 2

/-- A button reading, active low (20_memory.md R38). -/
abbrev Buttons := BitVec 6

/-- A drive-low mask (20_memory.md R40). -/
abbrev Mask := BitVec 6

/-- A value of the millisecond counter; its arithmetic is modulo 65536 (20_memory.md R39). -/
abbrev Tick := BitVec 16

/-- One input snapshot as a 33-bit stimulus word (30_encoding.md R61). -/
abbrev StimulusWord := BitVec 33

end Sys2Proof
end

