-- ==== Sys2Proof/Syntax.lean ====
section
/-! DEFINITION. The block's syntax: the decoded configuration, the operations and words of the operation table,
the input snapshot of a step, and the stimulus notation. -/

namespace Sys2Proof

/-- Which detector a step advances (00_scope.md R15, `sync_mode`). -/
inductive SyncMode where
  | csync
  | timer
deriving DecidableEq, Repr

/-- Which half of the routing table a step uses (00_scope.md R15, `fire_mode`). -/
inductive FireMode where
  | single
  | double
deriving DecidableEq, Repr

/-- `SwitchConfig` (10_state.md R28): 2 x 2 x 4 values, none of them invalid (40_config_decoder.md R65). -/
structure SwitchConfig where
  syncMode : SyncMode
  fireMode : FireMode
  speed : Speed
deriving DecidableEq, Repr

/-- The two router lanes (44_output_router.md R103, R109). -/
inductive Player where
  | p1
  | p2
deriving DecidableEq, Repr

/-- One constructor per row of the operation table (30_encoding.md R56, R57). A word `STEP.<C|T>.<S|D>.<speed>` is
the whole step with that configuration (R60); an operation carries the operands the other operations of its step
hand it, and reads its ports itself. -/
inductive Instr where
  /-- `STEP.C.S.0`: `CSYNC`, `SINGLE`, speed 0 -/
  | stepCS0
  /-- `STEP.T.S.0`: `TIMER`, `SINGLE`, speed 0 -/
  | stepTS0
  /-- `STEP.C.D.0`: `CSYNC`, `DOUBLE`, speed 0 -/
  | stepCD0
  /-- `STEP.T.D.0`: `TIMER`, `DOUBLE`, speed 0 -/
  | stepTD0
  /-- `STEP.C.S.1`: `CSYNC`, `SINGLE`, speed 1 -/
  | stepCS1
  /-- `STEP.T.S.1`: `TIMER`, `SINGLE`, speed 1 -/
  | stepTS1
  /-- `STEP.C.D.1`: `CSYNC`, `DOUBLE`, speed 1 -/
  | stepCD1
  /-- `STEP.T.D.1`: `TIMER`, `DOUBLE`, speed 1 -/
  | stepTD1
  /-- `STEP.C.S.2`: `CSYNC`, `SINGLE`, speed 2 -/
  | stepCS2
  /-- `STEP.T.S.2`: `TIMER`, `SINGLE`, speed 2 -/
  | stepTS2
  /-- `STEP.C.D.2`: `CSYNC`, `DOUBLE`, speed 2 -/
  | stepCD2
  /-- `STEP.T.D.2`: `TIMER`, `DOUBLE`, speed 2 -/
  | stepTD2
  /-- `STEP.C.S.3`: `CSYNC`, `SINGLE`, speed 3 -/
  | stepCS3
  /-- `STEP.T.S.3`: `TIMER`, `SINGLE`, speed 3 -/
  | stepTS3
  /-- `STEP.C.D.3`: `CSYNC`, `DOUBLE`, speed 3 -/
  | stepCD3
  /-- `STEP.T.D.3`: `TIMER`, `DOUBLE`, speed 3 -/
  | stepTD3
  /-- `CFG.DECODE` (40_config_decoder.md R64); its operand is the port `sw` -/
  | cfgDecode
  /-- `OSC.DISPATCH` (43_oscillator.md R95) -/
  | oscDispatch (mode : SyncMode) (speed : Speed)
  /-- `CSYNC.SAMPLE` (41_csync_detector.md R79) -/
  | csyncSample (speed : Speed)
  /-- `TIMER.STEP` (42_timer_detector.md R89) -/
  | timerStep (speed : Speed)
  /-- `ROUTE.SINGLE` (44_output_router.md R106, R107), one lane -/
  | routeSingle (lane : Player)
  /-- `ROUTE.DOUBLE` (44_output_router.md R104, R105), one lane -/
  | routeDouble (lane : Player)
deriving DecidableEq, Repr

/-- The input snapshot `I_n` (20_memory.md R34). -/
structure Snapshot where
  sw : SwWord
  syncIn : Bool
  tick : Tick
  btn1 : Buttons
  btn2 : Buttons
deriving DecidableEq, Repr

/-- What the environment presents at one rising edge of `clk` (20_memory.md R42): the reset and step-enable lines
and the five input ports. -/
structure ClockEdge where
  rst : Bool
  stepEn : Bool
  inputs : Snapshot
deriving DecidableEq, Repr

/-- The fields a `STEP` line of a stimulus script gives; a field left out keeps the previous line's value
(30_encoding.md R62). -/
structure LineFields where
  sw : Option SwWord := none
  sync : Option Bool := none
  tick : Option Tick := none
  b1 : Option Buttons := none
  b2 : Option Buttons := none
deriving DecidableEq, Repr

/-- A stimulus script (30_encoding.md R62) with its pseudo-operations (R63). `seq` puts one script after another. -/
inductive Stimulus where
  /-- `RESET tick=<n>` -/
  | reset (tick : Tick)
  /-- `STEP <fields>` -/
  | step (fields : LineFields)
  /-- `WINDOW high=<h> <fields>` -/
  | window (high : Nat) (fields : LineFields)
  /-- `RUN <k> tick+=<d> <fields>` -/
  | run (count : Nat) (delta : Nat) (fields : LineFields)
  /-- `HOLD <k> <fields>` -/
  | hold (count : Nat) (fields : LineFields)
  /-- `REPEAT <k> body` -/
  | times (count : Nat) (body : Stimulus)
  | seq (first second : Stimulus)
deriving DecidableEq, Repr

end Sys2Proof
end

