-- ==== Sys2Proof/Config.lean ====
section
/-! DEFINITION. What an implementation fixes (00_scope.md R8, R9) and the free values of the environment.
The values themselves stand in Decode.lean (`DecoderParams.default`) and Machine/Operands.lean (`Machine.constants`),
where a later repair may mend them. -/

namespace Sys2Proof

/-- The record of the block's constants (00_scope.md R8). -/
structure Constants where
  /-- `LPF_WINDOW` -/
  lpfWindow : Nat
  /-- `LPF_MAJORITY` -/
  lpfMajority : Nat
  /-- `HYST_INC` -/
  hystInc : Nat
  /-- `THRESH[0..3]` -/
  thresh : Vector Nat 4
  /-- `STEP_MS[0..3]` -/
  stepMs : Vector Nat 4
  /-- `TICK_BITS` -/
  tickBits : Nat
  /-- `SW_BITS` -/
  swBits : Nat
  /-- `BTN_BITS` -/
  btnBits : Nat
  /-- `GROUP_A_MASK` -/
  groupAMask : Mask
  /-- `GROUP_SHIFT` -/
  groupShift : Nat
  /-- `ALL_MASK` -/
  allMask : Mask
  /-- `PLAYERS` -/
  players : Nat
deriving DecidableEq, Repr

/-- The two legal values of `CFG_SPEED_MSB` (00_scope.md R9). -/
inductive SpeedMsb where
  | bit3
  | bit2
deriving DecidableEq, Repr

/-- The decoder parameters the source leaves open (00_scope.md R9; decisions D4, D5, D6). -/
structure DecoderParams where
  /-- `CFG_CSYNC_VALUE` -/
  csyncValue : Bool
  /-- `CFG_SINGLE_VALUE` -/
  singleValue : Bool
  /-- `CFG_SPEED_MSB` -/
  speedMsb : SpeedMsb
deriving DecidableEq, Repr

namespace Config

/-- FREE VALUE (log entry 5): the input ports at a clock edge nothing has been said about; any values, with no
relation between edges (20_memory.md R34). -/
opaque freeStimulus : Nat → StimulusWord

/-- FREE VALUE (log entry 5): the lines `rst` (bit 0) and `step_en` (bit 1) at such an edge. -/
opaque freeControl : Nat → BitVec 2

end Config

end Sys2Proof
end

