-- ==== Sys2Proof/WellFormed.lean ====
section
/-! DEFINITION. Well-formedness. Every instruction is well formed, because the operand types hold no invalid value
(30_encoding.md R58, 40_config_decoder.md R65); what can be ill formed is a word carried in a wider type, a record of
constants, and a stimulus script. -/

namespace Sys2Proof

/-- No word is reserved and no operand is out of range: "all 16 input combinations are valid" (30_encoding.md R58). -/
def Instr.wellFormed : Instr → Bool
  | .stepCS0 | .stepTS0 | .stepCD0 | .stepTD0 | .stepCS1 | .stepTS1 | .stepCD1 | .stepTD1
  | .stepCS2 | .stepTS2 | .stepCD2 | .stepTD2 | .stepCS3 | .stepTS3 | .stepCD3 | .stepTD3 => true
  | .cfgDecode => true
  | .oscDispatch _ _ => true
  | .csyncSample _ => true
  | .timerStep _ => true
  | .routeSingle _ => true
  | .routeDouble _ => true

/-- A configuration word carried in a wider type has no bit above bit 3 (40_config_decoder.md R69). -/
def swWellFormed (w : Nat) : Bool := decide (w < 16)

/-- A record of constants the rules can be read with: the counters fit the widths of 00_scope.md R10, one
subtraction brings the accumulator below the threshold (41_csync_detector.md R81, R82), and a step size is shorter
than the trip round the tick counter. -/
def Constants.wellFormed (c : Constants) : Bool :=
  decide (0 < c.lpfWindow) && decide (c.lpfWindow ≤ 64) && decide (c.lpfMajority ≤ c.lpfWindow) &&
  c.thresh.toList.all (fun t => decide (c.hystInc ≤ t) && decide (t < 256)) &&
  c.stepMs.toList.all (fun m => decide (0 < m) && decide (m < 2 ^ c.tickBits)) &&
  c.tickBits == 16 && c.swBits == 4 && c.btnBits == 6 && c.players == 2

/-- A script is well formed when every `WINDOW` has at most 48 high samples (30_encoding.md R63). -/
def Stimulus.wellFormed : Stimulus → Bool
  | .reset _ => true
  | .step _ => true
  | .window high _ => decide (high ≤ 48)
  | .run _ _ _ => true
  | .hold _ _ => true
  | .times _ body => body.wellFormed
  | .seq first second => first.wellFormed && second.wellFormed

end Sys2Proof
end

