-- ==== Sys2Proof/Decode.lean ====
section
/-! DEFINITION. Decoding and encoding: the configuration word `CFG4` and the operations it selects (30_encoding.md
R50 to R59), and the stimulus word (R61). Decoding is total and never refuses (R58). -/

namespace Sys2Proof

/-- The default decoder parameters (00_scope.md R9; decisions D4, D5, D6). -/
def DecoderParams.default : DecoderParams :=
  { csyncValue := false, singleValue := false, speedMsb := .bit3 }

/-- The 2-bit value `2 * hi + lo` (40_config_decoder.md R64). -/
def speedOfBits (hi lo : Bool) : Speed := BitVec.ofNat 2 (2 * hi.toNat + lo.toNat)

/-- A word from its four bits, the highest first. -/
def packWord (b3 b2 b1 b0 : Bool) : SwWord :=
  BitVec.ofNat 4 (8 * b3.toNat + 4 * b2.toNat + 2 * b1.toNat + b0.toNat)

/-- `CFG.DECODE` (40_config_decoder.md R64). -/
def decodeConfig (p : DecoderParams) (sw : SwWord) : SwitchConfig :=
  { syncMode := if sw.getLsbD 0 = p.csyncValue then .csync else .timer
    fireMode := if sw.getLsbD 1 = p.singleValue then .single else .double
    speed := match p.speedMsb with
      | .bit3 => speedOfBits (sw.getLsbD 3) (sw.getLsbD 2)
      | .bit2 => speedOfBits (sw.getLsbD 2) (sw.getLsbD 3) }

/-- The bit of `SW[0]` that names a detector (30_encoding.md R52). -/
def syncBit (p : DecoderParams) : SyncMode → Bool
  | .csync => p.csyncValue
  | .timer => !p.csyncValue

/-- The bit of `SW[1]` that names a routing (30_encoding.md R53). -/
def fireBit (p : DecoderParams) : FireMode → Bool
  | .single => p.singleValue
  | .double => !p.singleValue

/-- `SW[3]` and `SW[2]` for a speed (30_encoding.md R54). -/
def speedBits (p : DecoderParams) (speed : Speed) : Bool × Bool :=
  match p.speedMsb with
  | .bit3 => (speed.getLsbD 1, speed.getLsbD 0)
  | .bit2 => (speed.getLsbD 0, speed.getLsbD 1)

/-- The word of a configuration (30_encoding.md R51). -/
def encodeConfig (p : DecoderParams) (c : SwitchConfig) : SwWord :=
  packWord (speedBits p c.speed).1 (speedBits p c.speed).2 (fireBit p c.fireMode) (syncBit p c.syncMode)

/-- The word mnemonic's instruction for a configuration (30_encoding.md R57). -/
def stepInstr (c : SwitchConfig) : Instr :=
  match c.syncMode, c.fireMode, c.speed with
  | .csync, .single, 0#2 => .stepCS0
  | .timer, .single, 0#2 => .stepTS0
  | .csync, .double, 0#2 => .stepCD0
  | .timer, .double, 0#2 => .stepTD0
  | .csync, .single, 1#2 => .stepCS1
  | .timer, .single, 1#2 => .stepTS1
  | .csync, .double, 1#2 => .stepCD1
  | .timer, .double, 1#2 => .stepTD1
  | .csync, .single, 2#2 => .stepCS2
  | .timer, .single, 2#2 => .stepTS2
  | .csync, .double, 2#2 => .stepCD2
  | .timer, .double, 2#2 => .stepTD2
  | .csync, .single, 3#2 => .stepCS3
  | .timer, .single, 3#2 => .stepTS3
  | .csync, .double, 3#2 => .stepCD3
  | .timer, .double, 3#2 => .stepTD3

/-- The step a word stands for: the decoder a clock edge uses (30_encoding.md R57). -/
def decode (p : DecoderParams) (sw : SwWord) : Instr := stepInstr (decodeConfig p sw)

/-- What a row of the operation table is read from in a word (30_encoding.md R56): the whole word, one of the two
operations that run for every word, the detector slot, or a lane of the router slot. -/
inductive Slot where
  | word
  | config
  | dispatch
  | detector
  | router (lane : Player)
deriving DecidableEq, Repr

/-- The detector slot's operation (30_encoding.md R56). -/
def detectorInstr (mode : SyncMode) (speed : Speed) : Instr :=
  match mode with
  | .csync => .csyncSample speed
  | .timer => .timerStep speed

/-- The router slot's operation, for one lane (30_encoding.md R56). -/
def routerInstr (fireMode : FireMode) (lane : Player) : Instr :=
  match fireMode with
  | .single => .routeSingle lane
  | .double => .routeDouble lane

/-- The operation a slot of a word selects (30_encoding.md R56). -/
def decodeSlot (p : DecoderParams) (slot : Slot) (sw : SwWord) : Instr :=
  match slot with
  | .word => decode p sw
  | .config => .cfgDecode
  | .dispatch => .oscDispatch (decodeConfig p sw).syncMode (decodeConfig p sw).speed
  | .detector => detectorInstr (decodeConfig p sw).syncMode (decodeConfig p sw).speed
  | .router lane => routerInstr (decodeConfig p sw).fireMode lane

/-- The operations a word runs, in the order of the step (43_oscillator.md R99). `OSC.DISPATCH` runs the detector
slot's operation itself (R95), so that operation has no entry of its own. -/
def decodeOps (p : DecoderParams) (sw : SwWord) : List Instr :=
  [decodeSlot p .config sw, decodeSlot p .dispatch sw, decodeSlot p (.router .p1) sw, decodeSlot p (.router .p2) sw]

/-- The slot an instruction is read from. -/
def Instr.slot : Instr → Slot
  | .stepCS0 | .stepTS0 | .stepCD0 | .stepTD0 | .stepCS1 | .stepTS1 | .stepCD1 | .stepTD1
  | .stepCS2 | .stepTS2 | .stepCD2 | .stepTD2 | .stepCS3 | .stepTS3 | .stepCD3 | .stepTD3 => .word
  | .cfgDecode => .config
  | .oscDispatch _ _ => .dispatch
  | .csyncSample _ => .detector
  | .timerStep _ => .detector
  | .routeSingle lane => .router lane
  | .routeDouble lane => .router lane

/-- The word of an instruction (30_encoding.md R56, R57): for one of the six operations, the word that selects it
with every bit the operation does not use at 0. -/
def encode (p : DecoderParams) : Instr → SwWord
  | .stepCS0 => encodeConfig p ⟨.csync, .single, 0⟩
  | .stepTS0 => encodeConfig p ⟨.timer, .single, 0⟩
  | .stepCD0 => encodeConfig p ⟨.csync, .double, 0⟩
  | .stepTD0 => encodeConfig p ⟨.timer, .double, 0⟩
  | .stepCS1 => encodeConfig p ⟨.csync, .single, 1⟩
  | .stepTS1 => encodeConfig p ⟨.timer, .single, 1⟩
  | .stepCD1 => encodeConfig p ⟨.csync, .double, 1⟩
  | .stepTD1 => encodeConfig p ⟨.timer, .double, 1⟩
  | .stepCS2 => encodeConfig p ⟨.csync, .single, 2⟩
  | .stepTS2 => encodeConfig p ⟨.timer, .single, 2⟩
  | .stepCD2 => encodeConfig p ⟨.csync, .double, 2⟩
  | .stepTD2 => encodeConfig p ⟨.timer, .double, 2⟩
  | .stepCS3 => encodeConfig p ⟨.csync, .single, 3⟩
  | .stepTS3 => encodeConfig p ⟨.timer, .single, 3⟩
  | .stepCD3 => encodeConfig p ⟨.csync, .double, 3⟩
  | .stepTD3 => encodeConfig p ⟨.timer, .double, 3⟩
  | .cfgDecode => 0
  | .oscDispatch mode speed =>
      packWord (speedBits p speed).1 (speedBits p speed).2 false (syncBit p mode)
  | .csyncSample speed =>
      packWord (speedBits p speed).1 (speedBits p speed).2 false (syncBit p .csync)
  | .timerStep speed =>
      packWord (speedBits p speed).1 (speedBits p speed).2 false (syncBit p .timer)
  | .routeSingle _ => packWord false false (fireBit p .single) false
  | .routeDouble _ => packWord false false (fireBit p .double) false

/-- The mnemonic of an instruction's row (30_encoding.md R56, R57, R60). -/
def Instr.mnemonic : Instr → String
  | .stepCS0 => "STEP.C.S.0"
  | .stepTS0 => "STEP.T.S.0"
  | .stepCD0 => "STEP.C.D.0"
  | .stepTD0 => "STEP.T.D.0"
  | .stepCS1 => "STEP.C.S.1"
  | .stepTS1 => "STEP.T.S.1"
  | .stepCD1 => "STEP.C.D.1"
  | .stepTD1 => "STEP.T.D.1"
  | .stepCS2 => "STEP.C.S.2"
  | .stepTS2 => "STEP.T.S.2"
  | .stepCD2 => "STEP.C.D.2"
  | .stepTD2 => "STEP.T.D.2"
  | .stepCS3 => "STEP.C.S.3"
  | .stepTS3 => "STEP.T.S.3"
  | .stepCD3 => "STEP.C.D.3"
  | .stepTD3 => "STEP.T.D.3"
  | .cfgDecode => "CFG.DECODE"
  | .oscDispatch _ _ => "OSC.DISPATCH"
  | .csyncSample _ => "CSYNC.SAMPLE"
  | .timerStep _ => "TIMER.STEP"
  | .routeSingle _ => "ROUTE.SINGLE"
  | .routeDouble _ => "ROUTE.DOUBLE"

/-- The mask and the match of an instruction's row, with the default parameters (30_encoding.md R56, R57):
an operation is selected when `SW & mask = match`. -/
def Instr.maskMatch : Instr → SwWord × SwWord
  | .stepCS0 => (0b1111, 0b0000)
  | .stepTS0 => (0b1111, 0b0001)
  | .stepCD0 => (0b1111, 0b0010)
  | .stepTD0 => (0b1111, 0b0011)
  | .stepCS1 => (0b1111, 0b0100)
  | .stepTS1 => (0b1111, 0b0101)
  | .stepCD1 => (0b1111, 0b0110)
  | .stepTD1 => (0b1111, 0b0111)
  | .stepCS2 => (0b1111, 0b1000)
  | .stepTS2 => (0b1111, 0b1001)
  | .stepCD2 => (0b1111, 0b1010)
  | .stepTD2 => (0b1111, 0b1011)
  | .stepCS3 => (0b1111, 0b1100)
  | .stepTS3 => (0b1111, 0b1101)
  | .stepCD3 => (0b1111, 0b1110)
  | .stepTD3 => (0b1111, 0b1111)
  | .cfgDecode => (0b0000, 0b0000)
  | .oscDispatch _ _ => (0b0000, 0b0000)
  | .csyncSample _ => (0b0001, 0b0000)
  | .timerStep _ => (0b0001, 0b0001)
  | .routeSingle _ => (0b0010, 0b0000)
  | .routeDouble _ => (0b0010, 0b0010)

/-- A word carried in a wider type is first reduced with `& 0xF` (40_config_decoder.md R69). -/
def swOfNat (w : Nat) : SwWord := BitVec.ofNat 4 w

/-- The host's reading of a table word: the step the decoder reads from it, with the parameters the table assumes
(30_encoding.md R57). It never refuses (R58); `nbits` is not looked at, since the port is 4 bits wide. -/
def decodeTableWord (_nbits w : Nat) : Option Instr := some (decode DecoderParams.default (swOfNat w))

/-- A snapshot as a stimulus word, `tick` in bits 32:17, `btn2` in 16:11, `btn1` in 10:5, `sync_in` in bit 4, `sw`
in 3:0 (30_encoding.md R61). -/
def encodeStimulus (i : Snapshot) : StimulusWord :=
  BitVec.ofNat 33
    (i.tick.toNat * 2 ^ 17 + i.btn2.toNat * 2 ^ 11 + i.btn1.toNat * 2 ^ 5 + i.syncIn.toNat * 2 ^ 4 + i.sw.toNat)

/-- The snapshot of a stimulus word (30_encoding.md R61). -/
def decodeStimulus (w : StimulusWord) : Snapshot :=
  { sw := BitVec.ofNat 4 w.toNat
    syncIn := w.getLsbD 4
    tick := BitVec.ofNat 16 (w.toNat / 2 ^ 17)
    btn1 := BitVec.ofNat 6 (w.toNat / 2 ^ 5)
    btn2 := BitVec.ofNat 6 (w.toNat / 2 ^ 11) }

end Sys2Proof
end

