-- ==== Sys2Proof/Machine/Registers.lean ====
section
/-! DEFINITION. The six state registers (10_state.md R17 to R24) and the values a reset gives them. -/

namespace Sys2Proof.Machine

/-- The registers of the block: "exactly six state registers, 38 bits in all" (10_state.md R17). -/
structure Registers where
  /-- `lpf_count` (10_state.md R19) -/
  lpfCount : BitVec 6
  /-- `lpf_accum` (10_state.md R20) -/
  lpfAccum : BitVec 6
  /-- `level` (10_state.md R21) -/
  level : Bool
  /-- `hyst_accum` (10_state.md R22) -/
  hystAccum : BitVec 8
  /-- `last_deadline` (10_state.md R23) -/
  lastDeadline : Tick
  /-- `phase` (10_state.md R24) -/
  phase : Bool
deriving DecidableEq, Repr

/-- `reset(tick_0)` of 70_reset_and_hazards.md R130: `S_0` of 10_state.md R32. -/
def resetRegisters (tick0 : Tick) : Registers :=
  { lpfCount := 0, lpfAccum := 0, level := false, hystAccum := 0, lastDeadline := tick0, phase := false }

/-- The tick a reset samples in `State.reset`. DESIGN CHOICE (log entry 3, unsafe): the spec gives it no value. -/
def powerOnTick : Tick := 0

/-- The port values before the first line of a stimulus script: `sw` 0, `sync_in` 0, the reset's tick, nothing
pressed (30_encoding.md R62). -/
def quietInputs (tick0 : Tick) : Snapshot :=
  { sw := 0, syncIn := false, tick := tick0, btn1 := 0b111111, btn2 := 0b111111 }

end Sys2Proof.Machine
end

