-- ==== Sys2Proof/Machine/State.lean ====
section
/-! DEFINITION. The state of the machine: its six registers, the decoder parameters, and beside them the environment
at its ports. -/

namespace Sys2Proof.Machine

/-- The environment at the ports. None of it is a register of the block (10_state.md R27, R28, R30, R31). -/
structure Environment where
  /-- the values the next clock edge samples (20_memory.md R34, R42) -/
  edge : ClockEdge
  /-- the model's own (log entry 5): what the environment presents at the edges after that one -/
  upcoming : List ClockEdge
  /-- the model's own (log entry 5): which free value comes next once `upcoming` is empty -/
  freeIndex : Nat
  /-- the model's own (log entry 7): what the latest `CFG.DECODE` yielded (40_config_decoder.md R64); nothing reads it -/
  decoded : Option SwitchConfig
  /-- port `mask1`: the mask last presented since the reset (20_memory.md R40, 70_reset_and_hazards.md R132) -/
  mask1 : Option Mask
  /-- port `mask2` -/
  mask2 : Option Mask
deriving DecidableEq, Repr

/-- The machine and its environment. -/
structure State where
  /-- the six registers (10_state.md R17) -/
  regs : Registers
  /-- the decoder parameters (00_scope.md R9; log entry 1): nothing writes them -/
  params : DecoderParams
  env : Environment
deriving DecidableEq, Repr

/-- A step never faults: the set of exception causes is empty (60_exceptions.md R114, R121). No constructor, so no
definition of the model can answer with a fault. -/
inductive Fault where
deriving DecidableEq, Repr

/-- A step never refuses (60_exceptions.md R121). -/
inductive Refusal where
  /-- Raised by an arm of `exec` for an instruction without a meaning; safe. No arm raises it. -/
  | notModelled (mnemonic : String)
deriving DecidableEq, Repr

/-- The machine right after a reset that samples `powerOnTick` (10_state.md R32, 70_reset_and_hazards.md R130): the
default decoder parameters, no mask presented yet (R132), and nothing yet said of the inputs but the ports' values
before the first line of a script (log entries 3, 4). -/
def State.reset : State :=
  { regs := resetRegisters powerOnTick
    params := DecoderParams.default
    env :=
      { edge := { rst := false, stepEn := true, inputs := quietInputs powerOnTick }
        upcoming := []
        freeIndex := 0
        decoded := none
        mask1 := none
        mask2 := none } }

end Sys2Proof.Machine
end

