-- ==== Sys2Proof/Machine/Operands.lean ====
section
/-! DEFINITION. The constants, the two operand tables (00_scope.md R8, 30_encoding.md R55) and the port reads
(20_memory.md R35 to R41). -/

namespace Sys2Proof.Machine

/-- The one instance of the record of constants (00_scope.md R8; decision D26, log entry 14). -/
def constants : Constants :=
  { lpfWindow := 48
    lpfMajority := 24
    hystInc := 2
    thresh := #v[2, 3, 4, 6]
    stepMs := #v[17, 25, 33, 50]
    tickBits := 16
    swBits := 4
    btnBits := 6
    groupAMask := 0x07
    groupShift := 3
    allMask := 0x3F
    players := 2 }

/-- `THRESH[speed]` (20_memory.md R43). -/
def threshold (speed : Speed) : Nat := constants.thresh.get speed.toFin

/-- `STEP_MS[speed]` (20_memory.md R43, 42_timer_detector.md R86). -/
def stepMs (speed : Speed) : Nat := constants.stepMs.get speed.toFin

/-- The step size zero-extended to 16 bits (42_timer_detector.md R86). -/
def stepTicks (speed : Speed) : Tick := BitVec.ofNat 16 (stepMs speed)

/-- `PortRead`: the snapshot every operation of a step reads (20_memory.md R34). -/
def State.inputs (s : State) : Snapshot := s.env.edge.inputs

/-- Lane 1 reads `btn1`, lane 2 reads `btn2` (44_output_router.md R103). -/
def buttonsOf (i : Snapshot) (lane : Player) : Buttons :=
  match lane with
  | .p1 => i.btn1
  | .p2 => i.btn2

/-- Port `phase_out` is the register `phase` (20_memory.md R41). -/
def State.phaseOut (s : State) : Bool := s.regs.phase

/-- The mask last presented on a lane's output port (20_memory.md R40). -/
def State.mask (s : State) (lane : Player) : Option Mask :=
  match lane with
  | .p1 => s.env.mask1
  | .p2 => s.env.mask2

end Sys2Proof.Machine
end

