-- ==== Sys2Proof/Machine/Flags.lean ====
section
/-! DEFINITION. The 1-bit values the detectors compute (10_state.md R26): `close`, `level'`, `edge`, `inside`. -/

namespace Sys2Proof.Machine

/-- The majority vote `level'`: 0 if fewer than 24 samples were high, else 1 (41_csync_detector.md R73). -/
def majorityVote (acc : Nat) : Bool := !decide (acc < constants.lpfMajority)

/-- The window stays open while the incremented count is below 48 (41_csync_detector.md R72, R79). -/
def windowOpen (cnt : Nat) : Bool := decide (cnt < constants.lpfWindow)

/-- A qualifying edge: the previous `level` was 1 and the new one is 0 (41_csync_detector.md R74). -/
def fallingEdge (old new : Bool) : Bool := old && !new

/-- The tick lies in the half-open circular window `[deadline, deadline + step)` (42_timer_detector.md R87). -/
def insideWindow (tick deadline step : Tick) : Bool := decide (tick - deadline < step)

end Sys2Proof.Machine
end

