-- ==== Sys2Proof/Machine/Ops.lean ====
section
/-! DEFINITION. The operations of a step (41_csync_detector.md, 42_timer_detector.md, 43_oscillator.md,
44_output_router.md), the reset (70_reset_and_hazards.md), and the passing of one clock edge at the ports. The block
takes no exception and returns from none (60_exceptions.md R119, R120), so there is no such operation here. -/

namespace Sys2Proof.Machine

/-- The part of `CSYNC.SAMPLE` that a qualifying edge adds: accumulate, compare once, subtract at most once
(41_csync_detector.md R75, R76). -/
def hysteresis (speed : Speed) (r : Registers) : Registers :=
  let h := r.hystAccum.toNat + constants.hystInc
  if h ≥ threshold speed then
    { r with hystAccum := BitVec.ofNat 8 (h - threshold speed), phase := !r.phase }
  else
    { r with hystAccum := BitVec.ofNat 8 h }

/-- The close of a window with `acc` high samples (41_csync_detector.md R73, R74, R77, R78). -/
def closeWindow (acc : Nat) (speed : Speed) (r : Registers) : Registers :=
  let r' := if fallingEdge r.level (majorityVote acc) then hysteresis speed r else r
  { r' with level := majorityVote acc, lpfAccum := 0, lpfCount := 0 }

/-- `CSYNC.SAMPLE` (41_csync_detector.md R79). -/
def sampleCsync (syncIn : Bool) (speed : Speed) (r : Registers) : Registers :=
  let acc := r.lpfAccum.toNat + syncIn.toNat
  let cnt := r.lpfCount.toNat + 1
  if windowOpen cnt then
    { r with lpfAccum := BitVec.ofNat 6 acc, lpfCount := BitVec.ofNat 6 cnt }
  else
    closeWindow acc speed r

/-- `TIMER.STEP` (42_timer_detector.md R89). -/
def stepTimer (tick : Tick) (speed : Speed) (r : Registers) : Registers :=
  if insideWindow tick r.lastDeadline (stepTicks speed) then r
  else { r with lastDeadline := r.lastDeadline + stepTicks speed, phase := !r.phase }

/-- `OSC.DISPATCH`: exactly one of the two detectors (43_oscillator.md R95). -/
def dispatchDetector (mode : SyncMode) (speed : Speed) (i : Snapshot) (r : Registers) : Registers :=
  match mode with
  | .csync => sampleCsync i.syncIn speed r
  | .timer => stepTimer i.tick speed r

/-- `pressed`: the complement of an active-low reading within 6 bits (44_output_router.md R103). -/
def pressed (buttons : Buttons) : Mask := ~~~buttons &&& constants.allMask

/-- `ROUTE.DOUBLE` (44_output_router.md R104, R105). -/
def routeDoubleMask (on : Bool) (buttons : Buttons) : Mask :=
  if on then 0 else pressed buttons

/-- `ROUTE.SINGLE` (44_output_router.md R106, R107). -/
def routeSingleMask (on : Bool) (buttons : Buttons) : Mask :=
  let a := pressed buttons &&& constants.groupAMask
  if on then a <<< constants.groupShift else a

/-- `ROUTE` (44_output_router.md R108). -/
def routeMask (fireMode : FireMode) (on : Bool) (buttons : Buttons) : Mask :=
  match fireMode with
  | .double => routeDoubleMask on buttons
  | .single => routeSingleMask on buttons

/-- `PortWrite` on a lane's mask port (20_memory.md R40). -/
def State.present (lane : Player) (mask : Mask) (s : State) : State :=
  match lane with
  | .p1 => { s with env := { s.env with mask1 := some mask } }
  | .p2 => { s with env := { s.env with mask2 := some mask } }

/-- The result of `CFG.DECODE` shown to the rest of its step (40_config_decoder.md R68). -/
def State.showDecoded (config : SwitchConfig) (s : State) : State :=
  { s with env := { s.env with decoded := some config } }

/-- `CFG.DECODE` of the word at port `sw` (40_config_decoder.md R64). -/
def State.decodePort (s : State) : State := s.showDecoded (decodeConfig s.params s.inputs.sw)

/-- A detector's write to the registers, reading this step's snapshot (43_oscillator.md R95). -/
def State.runDetector (mode : SyncMode) (speed : Speed) (s : State) : State :=
  { s with regs := dispatchDetector mode speed s.inputs s.regs }

/-- One lane of the router, with the phase after this step's detector (43_oscillator.md R97, R99). -/
def State.routeLane (fireMode : FireMode) (lane : Player) (s : State) : State :=
  s.present lane (routeMask fireMode s.regs.phase (buttonsOf s.inputs lane))

/-- `STEP` with its configuration decoded: the four stages in order (43_oscillator.md R98, R99). -/
def State.runStep (config : SwitchConfig) (s : State) : State :=
  let s1 := s.showDecoded config
  let s2 := s1.runDetector config.syncMode config.speed
  let s3 := s2.routeLane config.fireMode .p1
  s3.routeLane config.fireMode .p2

/-- The reset event: `S_0` for the tick of that moment; no other port is read; no mask is presented until the next
step (70_reset_and_hazards.md R130 to R133). -/
def State.resetEvent (s : State) : State :=
  { s with
    regs := resetRegisters s.inputs.tick
    env := { s.env with decoded := none, mask1 := none, mask2 := none } }

/-- The free port values of log entry 5. -/
def freeEdge (n : Nat) : ClockEdge :=
  { rst := (Config.freeControl n).getLsbD 0
    stepEn := (Config.freeControl n).getLsbD 1
    inputs := decodeStimulus (Config.freeStimulus n) }

/-- After a clock edge the environment presents the values of the next one (20_memory.md R34, R42; log entry 5). -/
def State.passEdge (s : State) : State :=
  match s.env.upcoming with
  | e :: rest => { s with env := { s.env with edge := e, upcoming := rest } }
  | [] => { s with env := { s.env with edge := freeEdge s.env.freeIndex, freeIndex := s.env.freeIndex + 1 } }

/-- After an outcome of the block, the environment moves on to the next clock edge. -/
def thenPassEdge : Host.Outcome State Fault Refusal → Host.Outcome State Fault Refusal
  | .next s => .next s.passEdge
  | .fault f => .fault f
  | .refused r => .refused r

/-- The environment presents `e` at the coming clock edge. -/
def State.withEdge (e : ClockEdge) (s : State) : State := { s with env := { s.env with edge := e } }

/-- The environment holds the switches at the low four bits of `w` and enables a step (20_memory.md R42). -/
def State.withSwitches (w : Nat) (s : State) : State :=
  s.withEdge { rst := false, stepEn := true, inputs := { s.inputs with sw := swOfNat w } }

end Sys2Proof.Machine
end

