-- ==== Sys2Proof/Machine/Decoder.lean ====
section
/-! DEFINITION. The meaning of `CFG.DECODE` (40_config_decoder.md). -/

namespace Sys2Proof.Machine

/-- `CFG.DECODE` (40_config_decoder.md R64): no register is read or written. -/
def execCfgDecode (s : State) : Host.Outcome State Fault Refusal := .next s.decodePort

end Sys2Proof.Machine
end

