-- ==== Sys2Proof/Machine/Detectors.lean ====
section
/-! DEFINITION. The meanings of `CSYNC.SAMPLE`, `TIMER.STEP` and `OSC.DISPATCH` (41_csync_detector.md,
42_timer_detector.md, 43_oscillator.md). -/

namespace Sys2Proof.Machine

/-- `CSYNC.SAMPLE sync_in, speed` (41_csync_detector.md R79). -/
def execCsyncSample (speed : Speed) (s : State) : Host.Outcome State Fault Refusal :=
  .next { s with regs := sampleCsync s.inputs.syncIn speed s.regs }

/-- `TIMER.STEP tick, speed` (42_timer_detector.md R89). -/
def execTimerStep (speed : Speed) (s : State) : Host.Outcome State Fault Refusal :=
  .next { s with regs := stepTimer s.inputs.tick speed s.regs }

/-- `OSC.DISPATCH` (43_oscillator.md R95). -/
def execOscDispatch (mode : SyncMode) (speed : Speed) (s : State) : Host.Outcome State Fault Refusal :=
  .next (s.runDetector mode speed)

end Sys2Proof.Machine
end

