-- ==== Sys2Proof/Machine/Router.lean ====
section
/-! DEFINITION. The meanings of `ROUTE.SINGLE` and `ROUTE.DOUBLE`, one lane each (44_output_router.md). -/

namespace Sys2Proof.Machine

/-- `ROUTE.SINGLE on, btn` (44_output_router.md R106, R107). -/
def execRouteSingle (lane : Player) (s : State) : Host.Outcome State Fault Refusal :=
  .next (s.present lane (routeSingleMask s.regs.phase (buttonsOf s.inputs lane)))

/-- `ROUTE.DOUBLE on, btn` (44_output_router.md R104, R105). -/
def execRouteDouble (lane : Player) (s : State) : Host.Outcome State Fault Refusal :=
  .next (s.present lane (routeDoubleMask s.regs.phase (buttonsOf s.inputs lane)))

end Sys2Proof.Machine
end

