-- ==== Sys2Proof/Machine/StepWords.lean ====
section
/-! DEFINITION. The meanings of the sixteen words: `STEP` with the configuration fixed (30_encoding.md R57, R60;
43_oscillator.md R98). -/

namespace Sys2Proof.Machine

/-- `STEP.C.S.0` -/
def execStepCS0 (s : State) : Host.Outcome State Fault Refusal := .next (s.runStep ⟨.csync, .single, 0⟩)

/-- `STEP.T.S.0` -/
def execStepTS0 (s : State) : Host.Outcome State Fault Refusal := .next (s.runStep ⟨.timer, .single, 0⟩)

/-- `STEP.C.D.0` -/
def execStepCD0 (s : State) : Host.Outcome State Fault Refusal := .next (s.runStep ⟨.csync, .double, 0⟩)

/-- `STEP.T.D.0` -/
def execStepTD0 (s : State) : Host.Outcome State Fault Refusal := .next (s.runStep ⟨.timer, .double, 0⟩)

/-- `STEP.C.S.1` -/
def execStepCS1 (s : State) : Host.Outcome State Fault Refusal := .next (s.runStep ⟨.csync, .single, 1⟩)

/-- `STEP.T.S.1` -/
def execStepTS1 (s : State) : Host.Outcome State Fault Refusal := .next (s.runStep ⟨.timer, .single, 1⟩)

/-- `STEP.C.D.1` -/
def execStepCD1 (s : State) : Host.Outcome State Fault Refusal := .next (s.runStep ⟨.csync, .double, 1⟩)

/-- `STEP.T.D.1` -/
def execStepTD1 (s : State) : Host.Outcome State Fault Refusal := .next (s.runStep ⟨.timer, .double, 1⟩)

/-- `STEP.C.S.2` -/
def execStepCS2 (s : State) : Host.Outcome State Fault Refusal := .next (s.runStep ⟨.csync, .single, 2⟩)

/-- `STEP.T.S.2` -/
def execStepTS2 (s : State) : Host.Outcome State Fault Refusal := .next (s.runStep ⟨.timer, .single, 2⟩)

/-- `STEP.C.D.2` -/
def execStepCD2 (s : State) : Host.Outcome State Fault Refusal := .next (s.runStep ⟨.csync, .double, 2⟩)

/-- `STEP.T.D.2` -/
def execStepTD2 (s : State) : Host.Outcome State Fault Refusal := .next (s.runStep ⟨.timer, .double, 2⟩)

/-- `STEP.C.S.3` -/
def execStepCS3 (s : State) : Host.Outcome State Fault Refusal := .next (s.runStep ⟨.csync, .single, 3⟩)

/-- `STEP.T.S.3` -/
def execStepTS3 (s : State) : Host.Outcome State Fault Refusal := .next (s.runStep ⟨.timer, .single, 3⟩)

/-- `STEP.C.D.3` -/
def execStepCD3 (s : State) : Host.Outcome State Fault Refusal := .next (s.runStep ⟨.csync, .double, 3⟩)

/-- `STEP.T.D.3` -/
def execStepTD3 (s : State) : Host.Outcome State Fault Refusal := .next (s.runStep ⟨.timer, .double, 3⟩)

end Sys2Proof.Machine
end

