-- ==== Sys2Proof/Machine/Dispatch.lean ====
section
/-! DEFINITION. One arm per row of the operation table (30_encoding.md R56, R57). -/

namespace Sys2Proof.Machine

def exec (i : Instr) (s : State) : Host.Outcome State Fault Refusal :=
  match i with
  | .stepCS0 => Sys2Proof.Machine.execStepCS0 s
  | .stepTS0 => Sys2Proof.Machine.execStepTS0 s
  | .stepCD0 => Sys2Proof.Machine.execStepCD0 s
  | .stepTD0 => Sys2Proof.Machine.execStepTD0 s
  | .stepCS1 => Sys2Proof.Machine.execStepCS1 s
  | .stepTS1 => Sys2Proof.Machine.execStepTS1 s
  | .stepCD1 => Sys2Proof.Machine.execStepCD1 s
  | .stepTD1 => Sys2Proof.Machine.execStepTD1 s
  | .stepCS2 => Sys2Proof.Machine.execStepCS2 s
  | .stepTS2 => Sys2Proof.Machine.execStepTS2 s
  | .stepCD2 => Sys2Proof.Machine.execStepCD2 s
  | .stepTD2 => Sys2Proof.Machine.execStepTD2 s
  | .stepCS3 => Sys2Proof.Machine.execStepCS3 s
  | .stepTS3 => Sys2Proof.Machine.execStepTS3 s
  | .stepCD3 => Sys2Proof.Machine.execStepCD3 s
  | .stepTD3 => Sys2Proof.Machine.execStepTD3 s
  | .cfgDecode => Sys2Proof.Machine.execCfgDecode s
  | .oscDispatch mode speed => Sys2Proof.Machine.execOscDispatch mode speed s
  | .csyncSample speed => Sys2Proof.Machine.execCsyncSample speed s
  | .timerStep speed => Sys2Proof.Machine.execTimerStep speed s
  | .routeSingle lane => Sys2Proof.Machine.execRouteSingle lane s
  | .routeDouble lane => Sys2Proof.Machine.execRouteDouble lane s

end Sys2Proof.Machine
end

