-- ==== Sys2Proof/Machine/Envelope.lean ====
section
/-! DEFINITION. The hardware envelope (20_memory.md R42). -/

namespace Sys2Proof.Machine

/-- One rising edge of `clk`: the reset when `rst` is 1 (it wins over a step, 70_reset_and_hazards.md R133), one step
of the word at port `sw` when `rst` is 0 and `step_en` is 1, and no change when both are 0. -/
def clockEdge (s : State) : Host.Outcome State Fault Refusal :=
  if s.env.edge.rst then .next s.resetEvent
  else if s.env.edge.stepEn then exec (decode s.params s.inputs.sw) s
  else .next s

end Sys2Proof.Machine
end

