-- ==== Sys2Proof/Machine/Step.lean ====
section
/-! DEFINITION. One step of the machine: one rising edge of `clk` (20_memory.md R42), after which the environment
presents the values of the next one. -/

namespace Sys2Proof.Machine

/-- One rising edge of `clk`. -/
def step (s : State) : Host.Outcome State Fault Refusal := thenPassEdge (clockEdge s)

/-- The state whose next step runs the word `w`: its low four bits at the port `sw`, with a step enabled. The table's
rows are all one word long, so `nbits` is not looked at. -/
def State.withFetchWord (s : State) (_nbits w : Nat) : State := s.withSwitches w

end Sys2Proof.Machine
end

