-- ==== Sys2Proof/Machine/Stimulus.lean ====
section
/-! DEFINITION. What a stimulus script presents at the ports, edge by edge (30_encoding.md R62, R63). It is the
spec's own notation and no part of the block. -/

namespace Sys2Proof.Machine

/-- A line's fields over the previous line's values (30_encoding.md R62). -/
def overLine (f : LineFields) (prev : Snapshot) : Snapshot :=
  { sw := f.sw.getD prev.sw
    syncIn := f.sync.getD prev.syncIn
    tick := f.tick.getD prev.tick
    btn1 := f.b1.getD prev.btn1
    btn2 := f.b2.getD prev.btn2 }

/-- The clock edge of a `STEP` line. -/
def stepEdge (i : Snapshot) : ClockEdge := { rst := false, stepEn := true, inputs := i }

/-- The clock edge of a `RESET` line: only `tick` is given; the other ports keep the previous line's values, and the
reset wins whatever `step_en` is (70_reset_and_hazards.md R131, R133; log entry 13). -/
def resetEdge (i : Snapshot) : ClockEdge := { rst := true, stepEn := false, inputs := i }

/-- `count` repetitions of lines whose edges and last snapshot depend on the snapshot before them. -/
def repeatLines (lines : Snapshot → List ClockEdge × Snapshot) : Nat → Snapshot → List ClockEdge × Snapshot
  | 0, prev => ([], prev)
  | count + 1, prev =>
    let now := lines prev
    let rest := repeatLines lines count now.2
    (now.1 ++ rest.1, rest.2)

/-- The edges of a script and the port values its last line leaves, after a line that left `prev`. -/
def expandFrom : Stimulus → Snapshot → List ClockEdge × Snapshot
  | .reset t, prev =>
    let now := { prev with tick := t }
    ([resetEdge now], now)
  | .step f, prev =>
    let now := overLine f prev
    ([stepEdge now], now)
  | .window high f, prev =>
    let line (sync : Bool) (p : Snapshot) : List ClockEdge × Snapshot :=
      let now := { overLine f p with syncIn := sync }
      ([stepEdge now], now)
    let highs := repeatLines (line true) high prev
    let lows := repeatLines (line false) (constants.lpfWindow - high) highs.2
    (highs.1 ++ lows.1, lows.2)
  | .run count delta f, prev =>
    repeatLines
      (fun p =>
        let now := { overLine f p with tick := p.tick + BitVec.ofNat 16 delta }
        ([stepEdge now], now))
      count prev
  | .hold count f, prev =>
    repeatLines (fun p => let now := overLine f p; ([stepEdge now], now)) count prev
  | .times count body, prev => repeatLines (expandFrom body) count prev
  | .seq first second, prev =>
    let a := expandFrom first prev
    let b := expandFrom second a.2
    (a.1 ++ b.1, b.2)

/-- The edges of a whole script whose port values before its first line are R62's, with the tick `tick0`
(30_encoding.md R62). A script that opens with a `RESET` line never shows `tick0`. -/
def expandScript (script : Stimulus) (tick0 : Tick) : List ClockEdge := (expandFrom script (quietInputs tick0)).1

/-- The environment will present a script, from the coming edge on. DESIGN CHOICE (log entry 13), twice: what the
environment would have presented comes after the script; and a script with no `RESET` line before its first `STEP`
starts from the tick then at the port, where 30_encoding.md R62 names only "the reset's tick". -/
def State.loadScript (script : Stimulus) (s : State) : State :=
  match expandScript script s.inputs.tick ++ s.env.edge :: s.env.upcoming with
  | [] => s
  | e :: rest => { s with env := { s.env with edge := e, upcoming := rest } }

end Sys2Proof.Machine
end

