-- ==== Sys2Proof/Safety.lean ====
section
/-! DEFINITION. What claims about the machine speak of: the bounds of the registers, runs under given port values,
what is counted along a run, and the premises on the environment that 70_reset_and_hazards.md names. A step never
faults or refuses (60_exceptions.md R121), so a safe run is one that keeps the bounds. -/

namespace Sys2Proof.Machine

/-- The bounds of the three counters (10_state.md R33). `level`, `phase` and `last_deadline` have none. -/
abbrev Registers.Bounded (r : Registers) : Prop :=
  r.lpfCount.toNat ≤ 47 ∧ r.lpfAccum.toNat ≤ r.lpfCount.toNat ∧ r.hystAccum.toNat ≤ 5

/-- A run in which the environment presents the given values, one clock edge after another. -/
def runEdges : List ClockEdge → State → Host.Outcome State Fault Refusal
  | [], s => .next s
  | e :: es, s =>
    match step (s.withEdge e) with
    | .next t => runEdges es t
    | .fault f => .fault f
    | .refused r => .refused r

/-- How many clock edges of a run take a state to a next state that `seen` marks. -/
def countAlong (seen : State → State → Bool) : List ClockEdge → State → Nat
  | [], _ => 0
  | e :: es, s =>
    match step (s.withEdge e) with
    | .next t => (seen s t).toNat + countAlong seen es t
    | .fault _ => 0
    | .refused _ => 0

/-- A flip of `phase` (00_scope.md R15). -/
def phaseFlipped (s t : State) : Bool := s.regs.phase != t.regs.phase

/-- A qualifying edge, seen as `level` going from 1 to 0 (41_csync_detector.md R74, R77). -/
def levelFell (s t : State) : Bool := s.regs.level && !t.regs.level

/-- The edge performs a step (20_memory.md R42) that advances this detector. -/
def stepsDetector (p : DecoderParams) (mode : SyncMode) (e : ClockEdge) : Bool :=
  !e.rst && e.stepEn && decide ((decodeConfig p e.inputs.sw).syncMode = mode)

/-- The edge performs a step that advances this detector with this speed. -/
def stepsAtSpeed (p : DecoderParams) (mode : SyncMode) (speed : Speed) (e : ClockEdge) : Bool :=
  stepsDetector p mode e && decide ((decodeConfig p e.inputs.sw).speed = speed)

/-- The ticks of a run. -/
def ticksOf (es : List ClockEdge) : List Tick := es.map fun e => e.inputs.tick

/-- From one tick to the next the counter advances by `within` of the advance (modulo 65536). -/
def ticksAdvance (within : Nat → Prop) : Tick → List Tick → Prop
  | _, [] => True
  | t0, t :: ts => within (t - t0).toNat ∧ ticksAdvance within t ts

/-- The premise `TickNoSkip` (70_reset_and_hazards.md R139): no counter value is skipped. -/
def TickNoSkip (t0 : Tick) (ts : List Tick) : Prop := ticksAdvance (fun n => n ≤ 1) t0 ts

/-- The premise `TickMonotone` (70_reset_and_hazards.md R139). -/
def TickMonotone (t0 : Tick) (ts : List Tick) : Prop := ticksAdvance (fun n => n < 65536 - 50) t0 ts

/-- The counts that pass from `t0` through the given ticks, each advance taken modulo 65536. -/
def totalAdvance : Tick → List Tick → Nat
  | _, [] => 0
  | t0, t :: ts => (t - t0).toNat + totalAdvance t ts

/-- The routing table, transcribed from the source's four rows (44_output_router.md R108): what claims compare the
router's meaning with. -/
def routingTable (fireMode : FireMode) (on : Bool) (buttons : Buttons) : Mask :=
  match fireMode, on with
  | .double, true => 0
  | .double, false => ~~~buttons &&& 0x3F
  | .single, true => (~~~buttons &&& 0x07) <<< 3
  | .single, false => ~~~buttons &&& 0x07

end Sys2Proof.Machine
end

