-- ==== Sys2Proof/Certificates/Slice0/Obligations.lean ====
section
/-! DEFINITION. The statements about the machine. Each docstring names the rule of spec/ it formalises or rests on.
Every number in a statement is a literal of 00_scope.md R8 (log entry 14). -/

open Sys2Proof Sys2Proof.Machine

/-! Decoding and encoding -/

/-- 40_config_decoder.md R64, 30_encoding.md R52 to R54: each field is read from its own bits, whatever the decoder
parameters; the default values are the spec's own (decisions D4 to D6, log entry 1). -/
def Obligations.ConfigFieldsReadFromTheirBits : Prop :=
  ∀ (p : DecoderParams) (sw : SwWord),
    ((decodeConfig p sw).syncMode = .csync ↔ sw.getLsbD 0 = p.csyncValue) ∧
    ((decodeConfig p sw).fireMode = .single ↔ sw.getLsbD 1 = p.singleValue) ∧
    (p.speedMsb = .bit3 →
      (decodeConfig p sw).speed.toNat = 2 * (sw.getLsbD 3).toNat + (sw.getLsbD 2).toNat) ∧
    (p.speedMsb = .bit2 →
      (decodeConfig p sw).speed.toNat = 2 * (sw.getLsbD 2).toNat + (sw.getLsbD 3).toNat)

/-- 40_config_decoder.md R65: as a function from words to configurations the decoder is a bijection. -/
def Obligations.DecoderIsBijection : Prop := ∀ p : DecoderParams, Function.Bijective (decodeConfig p)

/-- 40_config_decoder.md R67: changing one field's bits never changes another field. -/
def Obligations.DecodedFieldsIndependent : Prop :=
  ∀ (p : DecoderParams) (sw sw' : SwWord),
    (sw.getLsbD 3 = sw'.getLsbD 3 → sw.getLsbD 2 = sw'.getLsbD 2 →
      (decodeConfig p sw).speed = (decodeConfig p sw').speed) ∧
    (sw.getLsbD 0 = sw'.getLsbD 0 → (decodeConfig p sw).syncMode = (decodeConfig p sw').syncMode) ∧
    (sw.getLsbD 1 = sw'.getLsbD 1 → (decodeConfig p sw).fireMode = (decodeConfig p sw').fireMode)

/-- 30_encoding.md R57: a few of the sixteen words, with the default parameters (the spec's own, D4 to D6, log
entry 1), and what another value of a parameter permutes. -/
def Obligations.WordsDecodeAsTabled : Prop :=
  decode DecoderParams.default 0b0000 = .stepCS0 ∧ decode DecoderParams.default 0b0001 = .stepTS0 ∧
  decode DecoderParams.default 0b0010 = .stepCD0 ∧ decode DecoderParams.default 0b0111 = .stepTD1 ∧
  decode DecoderParams.default 0b1000 = .stepCS2 ∧ decode DecoderParams.default 0b1101 = .stepTS3 ∧
  decode DecoderParams.default 0b1110 = .stepCD3 ∧ decode DecoderParams.default 0b1111 = .stepTD3 ∧
  (∀ (p : DecoderParams) (sw : SwWord),
    decode { p with csyncValue := !p.csyncValue } sw = decode p (sw ^^^ 0b0001) ∧
    decode { p with singleValue := !p.singleValue } sw = decode p (sw ^^^ 0b0010))

/-- 30_encoding.md R51, R56, R57: no bit of an instruction's encoding is dropped, and a word is encoded by one step.
That a word is read once per slot, and the unused bits of an operation's word are 0, is the model's choice (log entry
10). -/
def Obligations.EncodedInstructionDecodesBack : Prop :=
  (∀ (p : DecoderParams) (i : Instr), i.wellFormed = true → decodeSlot p i.slot (encode p i) = i) ∧
  (∀ (p : DecoderParams) (sw : SwWord), encode p (decode p sw) = sw)

/-- 30_encoding.md R61 (the spec's own notation, decision D18): the stimulus word holds each port in its bits, and
nothing else. -/
def Obligations.StimulusWordHoldsSnapshot : Prop :=
  (∀ i : Snapshot,
    decodeStimulus (encodeStimulus i) = i ∧
    (encodeStimulus i).extractLsb' 17 16 = i.tick ∧ (encodeStimulus i).extractLsb' 11 6 = i.btn2 ∧
    (encodeStimulus i).extractLsb' 5 6 = i.btn1 ∧ (encodeStimulus i).getLsbD 4 = i.syncIn ∧
    (encodeStimulus i).extractLsb' 0 4 = i.sw) ∧
  (∀ w : StimulusWord, encodeStimulus (decodeStimulus w) = w)

/-- 30_encoding.md R63 (the spec's own notation, decision D18): what `WINDOW` and `RUN` present, line by line. That a
`RUN` line's tick comes from its step, whatever tick field it has, is the model's reading (log entry 13). -/
def Obligations.PseudoOperationsExpand : Prop :=
  (∀ (high : Nat) (f : LineFields) (prev : Snapshot), (Stimulus.window high f).wellFormed = true →
    (expandFrom (.window high f) prev).1.length = 48 ∧
    ∀ j < 48, (expandFrom (.window high f) prev).1[j]? =
      some ⟨false, true, { overLine f prev with syncIn := decide (j < high) }⟩) ∧
  (∀ (count delta : Nat) (f : LineFields) (prev : Snapshot),
    (expandFrom (.run count delta f) prev).1.length = count ∧
    ∀ j < count, (expandFrom (.run count delta f) prev).1[j]? =
      some ⟨false, true, { overLine f prev with tick := prev.tick + BitVec.ofNat 16 ((j + 1) * delta) }⟩)

/-! The operations, one at a time -/

/-- 40_config_decoder.md R64: `CFG.DECODE` yields the fields of the word at port `sw` and writes no register. Where
the result is shown is the model's choice (log entry 7). That the operation runs alone is log entry 11. -/
def Obligations.CfgDecodeYieldsConfig : Prop :=
  ∀ s : State, ∃ c : SwitchConfig,
    exec .cfgDecode s = .next { s with env := { s.env with decoded := some c } } ∧
    (c.syncMode = .csync ↔ s.env.edge.inputs.sw.getLsbD 0 = s.params.csyncValue) ∧
    (c.fireMode = .single ↔ s.env.edge.inputs.sw.getLsbD 1 = s.params.singleValue) ∧
    (s.params.speedMsb = .bit3 →
      c.speed.toNat = 2 * (s.env.edge.inputs.sw.getLsbD 3).toNat + (s.env.edge.inputs.sw.getLsbD 2).toNat) ∧
    (s.params.speedMsb = .bit2 →
      c.speed.toNat = 2 * (s.env.edge.inputs.sw.getLsbD 2).toNat + (s.env.edge.inputs.sw.getLsbD 3).toNat)

/-- 40_config_decoder.md R66: the result depends on the current `SW` only, given the machine's parameters. That the
result is shown in `env.decoded`, where this statement reads it and requires it, is the model's choice (log entry 7):
the spec stores it nowhere (R68). The parameters stand in the state by log entry 1. -/
def Obligations.CfgDecodeDependsOnWordOnly : Prop :=
  ∀ s s' : State, s.params = s'.params → s.env.edge.inputs.sw = s'.env.edge.inputs.sw →
    ∃ t t' : State, exec .cfgDecode s = .next t ∧ exec .cfgDecode s' = .next t' ∧
      t.env.decoded = t'.env.decoded ∧ t.env.decoded ≠ none

/-- 41_csync_detector.md R71 to R79, case by case, with the thresholds of 00_scope.md R8. That the close is in the
call that counts 48, and that the threshold is compared once and only at an edge, are the spec's own readings (D10,
D11; log entry 15). R72 speaks of the count being exactly 48; that a count above 48, which no run reaches, closes the
window too is read from the else branch of R79 (DEDUCED; log entry 9). -/
def Obligations.CsyncSampleFollowsPseudocode : Prop :=
  ∀ w ∈ [((0 : Speed), 2), (1, 3), (2, 4), (3, 6)], ∀ s : State,
    let r := s.regs
    let acc := r.lpfAccum.toNat + s.env.edge.inputs.syncIn.toNat
    let cnt := r.lpfCount.toNat + 1
    let h := r.hystAccum.toNat + 2
    (cnt < 48 → r.lpfAccum.toNat ≤ r.lpfCount.toNat →
      ∃ t : State, exec (.csyncSample w.1) s = .next t ∧
        t = { s with regs := { r with lpfAccum := t.regs.lpfAccum, lpfCount := t.regs.lpfCount } } ∧
        t.regs.lpfAccum.toNat = acc ∧ t.regs.lpfCount.toNat = cnt) ∧
    (48 ≤ cnt → ¬ (r.level = true ∧ acc < 24) →
      exec (.csyncSample w.1) s =
        .next { s with regs := { r with level := decide (24 ≤ acc), lpfAccum := 0, lpfCount := 0 } }) ∧
    (48 ≤ cnt → r.level = true → acc < 24 → h < w.2 →
      exec (.csyncSample w.1) s =
        .next { s with regs := { r with
          hystAccum := BitVec.ofNat 8 h, level := false, lpfAccum := 0, lpfCount := 0 } }) ∧
    (48 ≤ cnt → r.level = true → acc < 24 → w.2 ≤ h →
      exec (.csyncSample w.1) s =
        .next { s with regs := { r with
          hystAccum := BitVec.ofNat 8 (h - w.2), phase := !r.phase, level := false, lpfAccum := 0, lpfCount := 0 } })

/-- 41_csync_detector.md R72 to R78: the call that closes a window takes the vote with the tie going to 1, clears the
two counters, and touches the accumulator or the phase exactly when the old level was 1 and the vote is 0. That the
call at `lpf_count` 47 is the one that closes, with its sample in the vote (R72, D11), and that without an edge
accumulator and phase stay untouched at any speed (R76, D10), are the spec's own readings (log entry 15). -/
def Obligations.WindowCloseVotesAndClears : Prop :=
  ∀ (speed : Speed) (s : State), s.regs.lpfCount.toNat = 47 →
    ∃ t : State, exec (.csyncSample speed) s = .next t ∧
      t.regs.level = decide (24 ≤ s.regs.lpfAccum.toNat + s.env.edge.inputs.syncIn.toNat) ∧
      t.regs.lpfAccum = 0 ∧ t.regs.lpfCount = 0 ∧
      ((t.regs.hystAccum ≠ s.regs.hystAccum ∨ t.regs.phase ≠ s.regs.phase) ↔
        (s.regs.level = true ∧ t.regs.level = false))

/-- 42_timer_detector.md R86 to R88: inside the circular half-open window of `ms` counter values nothing is written;
outside it the deadline moves by exactly one step size, whatever the tick is, and the phase flips. -/
def Obligations.TimerStepTogglesOutsideWindow : Prop :=
  ∀ w ∈ [((0 : Speed), 17), (1, 25), (2, 33), (3, 50)], ∀ s : State,
    let r := s.regs
    ((∃ j < w.2, s.env.edge.inputs.tick = r.lastDeadline + BitVec.ofNat 16 j) →
      exec (.timerStep w.1) s = .next s) ∧
    ((¬ ∃ j < w.2, s.env.edge.inputs.tick = r.lastDeadline + BitVec.ofNat 16 j) →
      exec (.timerStep w.1) s =
        .next { s with regs := { r with lastDeadline := r.lastDeadline + BitVec.ofNat 16 w.2, phase := !r.phase } })

/-- 42_timer_detector.md R87, R89: the same in the source's required form, an unsigned 16-bit difference against the
step size. -/
def Obligations.TimerStepComparesUnsignedDifference : Prop :=
  ∀ w ∈ [((0 : Speed), 17), (1, 25), (2, 33), (3, 50)], ∀ s : State,
    ∃ t : State, exec (.timerStep w.1) s = .next t ∧
      (t.regs.phase ≠ s.regs.phase ↔
        w.2 ≤ (s.env.edge.inputs.tick.toNat + 65536 - s.regs.lastDeadline.toNat) % 65536) ∧
      t.regs.lastDeadline.toNat =
        (s.regs.lastDeadline.toNat + if t.regs.phase = s.regs.phase then 0 else w.2) % 65536 ∧
      t = { s with regs := { s.regs with lastDeadline := t.regs.lastDeadline, phase := t.regs.phase } }

/-- 43_oscillator.md R95: exactly one detector runs, exactly once, and nothing else happens. -/
def Obligations.OscDispatchRunsOneDetector : Prop :=
  ∀ (speed : Speed) (s : State),
    (∃ t : State, exec (.oscDispatch .csync speed) s = .next t ∧ exec (.csyncSample speed) s = .next t ∧
      t = { s with regs := { t.regs with lastDeadline := s.regs.lastDeadline } }) ∧
    (∃ t : State, exec (.oscDispatch .timer speed) s = .next t ∧ exec (.timerStep speed) s = .next t ∧
      t = { s with regs := { s.regs with lastDeadline := t.regs.lastDeadline, phase := t.regs.phase } })

/-- 44_output_router.md R104, R105, one lane at a time: with the phase on every line floats; with it off each pressed
(cleared) button drives its own line. The lane's mask port is all that changes. -/
def Obligations.RouteDoublePassesAllWhenOff : Prop :=
  ∀ s : State, ∃ m1 m2 : Mask,
    exec (.routeDouble .p1) s = .next { s with env := { s.env with mask1 := some m1 } } ∧
    exec (.routeDouble .p2) s = .next { s with env := { s.env with mask2 := some m2 } } ∧
    (s.regs.phase = true → m1 = 0 ∧ m2 = 0) ∧
    (s.regs.phase = false → ∀ i < 6,
      m1.getLsbD i = (!s.env.edge.inputs.btn1.getLsbD i) ∧ m2.getLsbD i = (!s.env.edge.inputs.btn2.getLsbD i))

/-- 44_output_router.md R106, R107, one lane at a time: group A alone is live; it drives group B's positions with the
phase on and its own with it off; the other three positions float. -/
def Obligations.RouteSingleAlternatesGroupA : Prop :=
  ∀ s : State, ∃ m1 m2 : Mask,
    exec (.routeSingle .p1) s = .next { s with env := { s.env with mask1 := some m1 } } ∧
    exec (.routeSingle .p2) s = .next { s with env := { s.env with mask2 := some m2 } } ∧
    (s.regs.phase = true → ∀ i < 3,
      m1.getLsbD i = false ∧ m1.getLsbD (3 + i) = (!s.env.edge.inputs.btn1.getLsbD i) ∧
      m2.getLsbD i = false ∧ m2.getLsbD (3 + i) = (!s.env.edge.inputs.btn2.getLsbD i)) ∧
    (s.regs.phase = false → ∀ i < 3,
      m1.getLsbD i = (!s.env.edge.inputs.btn1.getLsbD i) ∧ m1.getLsbD (3 + i) = false ∧
      m2.getLsbD i = (!s.env.edge.inputs.btn2.getLsbD i) ∧ m2.getLsbD (3 + i) = false)

/-- 44_output_router.md R112: what the routing function guarantees for every reading. -/
def Obligations.RoutingProperties : Prop :=
  ∀ b : Buttons,
    (∀ fireMode on, routeMask fireMode on 0x3F = 0) ∧
    (∀ i < 6, (routeMask .double false b).getLsbD i = true ↔ b.getLsbD i = false) ∧
    routeMask .double true b = 0 ∧
    routeMask .single true b &&& routeMask .single false b = 0 ∧
    routeMask .single true b = routeMask .single false b <<< 3 ∧
    routeMask .single true b >>> 3 = routeMask .single false b ∧
    (∀ i < 6, (routeMask .single false b).getLsbD i = true ↔ i < 3 ∧ b.getLsbD i = false) ∧
    (∀ i < 3, (routeMask .single true b).getLsbD (i + 3) = true ↔ b.getLsbD i = false)

/-! The whole step -/

/-- 43_oscillator.md R98, R99, for the eight words of `CSYNC` mode: `CSYNC.SAMPLE` writes the registers, and both lanes
are routed by the source's table with the phase it leaves. That the next state shows the decoded configuration in
`env.decoded`, and holds the masks at their ports, is the model's choice (log entry 7): no rule says the configuration
is stored (10_state.md R28, 40_config_decoder.md R68). -/
def Obligations.CsyncWordsRunStep : Prop :=
  ∀ w ∈ [(Instr.stepCS0, FireMode.single, (0 : Speed)), (.stepCD0, .double, 0), (.stepCS1, .single, 1),
      (.stepCD1, .double, 1), (.stepCS2, .single, 2), (.stepCD2, .double, 2), (.stepCS3, .single, 3),
      (.stepCD3, .double, 3)],
    ∀ s : State, ∃ u : State, exec (.csyncSample w.2.2) s = .next u ∧
      exec w.1 s = .next { s with
        regs := u.regs
        env := { s.env with
          decoded := some ⟨.csync, w.2.1, w.2.2⟩
          mask1 := some (routingTable w.2.1 u.regs.phase s.env.edge.inputs.btn1)
          mask2 := some (routingTable w.2.1 u.regs.phase s.env.edge.inputs.btn2) } }

/-- 43_oscillator.md R98, R99, for the eight words of `TIMER` mode: `TIMER.STEP` writes the registers, and both lanes
are routed by the source's table with the phase it leaves. That the next state shows the decoded configuration in
`env.decoded`, and holds the masks at their ports, is the model's choice (log entry 7), as for the `CSYNC` words. -/
def Obligations.TimerWordsRunStep : Prop :=
  ∀ w ∈ [(Instr.stepTS0, FireMode.single, (0 : Speed)), (.stepTD0, .double, 0), (.stepTS1, .single, 1),
      (.stepTD1, .double, 1), (.stepTS2, .single, 2), (.stepTD2, .double, 2), (.stepTS3, .single, 3),
      (.stepTD3, .double, 3)],
    ∀ s : State, ∃ u : State, exec (.timerStep w.2.2) s = .next u ∧
      exec w.1 s = .next { s with
        regs := u.regs
        env := { s.env with
          decoded := some ⟨.timer, w.2.1, w.2.2⟩
          mask1 := some (routingTable w.2.1 u.regs.phase s.env.edge.inputs.btn1)
          mask2 := some (routingTable w.2.1 u.regs.phase s.env.edge.inputs.btn2) } }

/-- 44_output_router.md R109, 43_oscillator.md R100: from the same registers and parameters, two steps whose other
ports agree leave the same registers whatever the buttons are, and a lane's mask depends on no other lane's buttons.
The clock edge is the spec's own envelope (D2; log entry 6). Where the masks stand is log entry 7. -/
def Obligations.ButtonsReachOnlyTheirOwnMask : Prop :=
  ∀ s s' : State, s.regs = s'.regs → s.params = s'.params →
    s.env.edge.rst = false → s.env.edge.stepEn = true →
    s'.env.edge = { s.env.edge with
      inputs := { s.env.edge.inputs with btn1 := s'.env.edge.inputs.btn1, btn2 := s'.env.edge.inputs.btn2 } } →
    ∃ t t' : State, step s = .next t ∧ step s' = .next t' ∧ t.regs = t'.regs ∧
      (s.env.edge.inputs.btn1 = s'.env.edge.inputs.btn1 → t.env.mask1 = t'.env.mask1) ∧
      (s.env.edge.inputs.btn2 = s'.env.edge.inputs.btn2 → t.env.mask2 = t'.env.mask2)

/-- 20_memory.md R37, R39, 43_oscillator.md R100: the port a step's detector does not read has no effect on anything
the step leaves in the block or at its outputs. The clock edge is the spec's own envelope (D2; log entry 6). Where the
masks stand is log entry 7. -/
def Obligations.UnreadPortHasNoEffect : Prop :=
  ∀ s s' : State, s.regs = s'.regs → s.params = s'.params → s.env.edge.rst = false → s.env.edge.stepEn = true →
    ((stepsDetector s.params .timer s.env.edge = true ∧
        s'.env.edge = { s.env.edge with
          inputs := { s.env.edge.inputs with syncIn := s'.env.edge.inputs.syncIn } }) ∨
      (stepsDetector s.params .csync s.env.edge = true ∧
        s'.env.edge = { s.env.edge with
          inputs := { s.env.edge.inputs with tick := s'.env.edge.inputs.tick } })) →
    ∃ t t' : State, step s = .next t ∧ step s' = .next t' ∧ t.regs = t'.regs ∧
      t.env.mask1 = t'.env.mask1 ∧ t.env.mask2 = t'.env.mask2

/-- 43_oscillator.md R97, 41_csync_detector.md R80, 10_state.md R24: but for a reset, a clock edge changes the phase
only in a step, and there only by the detector that ran: at the close of a window with a qualifying edge, or with the
tick outside the window. It rests on the spec's own readings D10, D11, D20 (log entry 15) and its envelope (D2; log
entry 6). From a state with `lpf_count` above 47 it rests on log entry 9. -/
def Obligations.PhaseFlipsOnlyByRunningDetector : Prop :=
  ∀ s : State, s.env.edge.rst = false → ∃ t : State, step s = .next t ∧
    (t.regs.phase ≠ s.regs.phase →
      s.env.edge.stepEn = true ∧
      ((stepsDetector s.params .csync s.env.edge = true ∧ 47 ≤ s.regs.lpfCount.toNat ∧
          s.regs.level = true ∧ t.regs.level = false ∧ t.regs.lastDeadline = s.regs.lastDeadline) ∨
        (stepsDetector s.params .timer s.env.edge = true ∧
          17 ≤ (s.env.edge.inputs.tick - s.regs.lastDeadline).toNat ∧
          t.regs.lastDeadline ≠ s.regs.lastDeadline ∧ t.regs.lpfCount = s.regs.lpfCount)))

/-! Clock edges -/

/-- 20_memory.md R42, R49, 40_config_decoder.md R68: at an edge with `rst` 0 and `step_en` 1 the word at port `sw` is
decoded and its instruction run; then the environment presents the next edge's values. That such an edge is one STEP
is the spec's own decision (R42, D2; log entry 6), that the environment stands in the state the model's (log entry
5). -/
def Obligations.StepRunsDecodedInstruction : Prop :=
  ∀ s : State, s.env.edge.rst = false → s.env.edge.stepEn = true →
    (decode s.params s.env.edge.inputs.sw).wellFormed = true ∧
    ∃ t u : State, exec (decode s.params s.env.edge.inputs.sw) s = .next t ∧ step s = .next u ∧
      u = { t with env := { t.env with
        edge := u.env.edge, upcoming := u.env.upcoming, freeIndex := u.env.freeIndex } } ∧
      (∀ e rest, t.env.upcoming = e :: rest →
        u.env.edge = e ∧ u.env.upcoming = rest ∧ u.env.freeIndex = t.env.freeIndex) ∧
      (t.env.upcoming = [] →
        u.env.edge = freeEdge t.env.freeIndex ∧ u.env.upcoming = [] ∧ u.env.freeIndex = t.env.freeIndex + 1)

/-- The host's reading of a table word and the machine's fetch agree with the decoder of the default parameters
(30_encoding.md R57, 40_config_decoder.md R69; log entry 12). `env.decoded` is the model's own (log entry 7). The
clock edge is the spec's own envelope (D2; log entry 6). -/
def Obligations.FetchedWordRunsTableInstruction : Prop :=
  ∀ (s : State) (nbits w : Nat), s.params = DecoderParams.default → w < 16 →
    ∃ i : Instr, decodeTableWord nbits w = some i ∧ encode DecoderParams.default i = BitVec.ofNat 4 w ∧
      ∃ t u : State, exec i (s.withFetchWord nbits w) = .next t ∧ step (s.withFetchWord nbits w) = .next u ∧
        u.regs = t.regs ∧ u.env.decoded = t.env.decoded ∧ u.env.mask1 = t.env.mask1 ∧ u.env.mask2 = t.env.mask2

/-- 70_reset_and_hazards.md section 1: a reset captures the tick of that edge as the deadline (R131), and nothing
else has an effect on the registers it leaves: no other port (R131), not `step_en`, not the registers before it. That
the reset wins over a step and gives `S_0` from any state is the spec's own decision (R133, D21; log entry 15), and
so is the clock edge with `rst` 1 at which it happens (20_memory.md R42, D2; log entry 6). -/
def Obligations.ResetCapturesTick : Prop :=
  ∀ s : State, s.env.edge.rst = true → ∃ t : State, step s = .next t ∧
    t.regs.lastDeadline = s.env.edge.inputs.tick ∧
    ∀ s' : State, s'.env.edge.rst = true → s'.env.edge.inputs.tick = s.env.edge.inputs.tick →
      ∃ t' : State, step s' = .next t' ∧ t'.regs = t.regs

/-- 70_reset_and_hazards.md R130, R132, R133: the reset wins over a step and leaves `S_0` from any state, with no
mask presented. The zeros of `level` and `phase` and the counters' zeros (D8, D9; log entry 2), the absent masks
(D13; log entry 7), the priority (D21; log entry 15) and the clock edge (D2; log entry 6) are the spec's own
decisions as the model holds them. -/
def Obligations.ResetGivesInitialRegisters : Prop :=
  ∀ s : State, s.env.edge.rst = true → ∃ t : State, step s = .next t ∧ t.params = s.params ∧
    t.regs.lpfCount = 0 ∧ t.regs.lpfAccum = 0 ∧ t.regs.level = false ∧ t.regs.hystAccum = 0 ∧
    t.regs.lastDeadline = s.env.edge.inputs.tick ∧ t.regs.phase = false ∧
    t.phaseOut = false ∧ t.mask .p1 = none ∧ t.mask .p2 = none

/-- 20_memory.md R42, 60_exceptions.md R129 (the spec's own envelope, D2): with `rst` and `step_en` both 0 nothing
changes but what the environment presents next. That `env.decoded` and the masks stand in the state is the model's
choice (log entry 7). -/
def Obligations.IdleEdgeHoldsEverything : Prop :=
  ∀ s : State, s.env.edge.rst = false → s.env.edge.stepEn = false → ∃ t : State, step s = .next t ∧
    t.regs = s.regs ∧ t.params = s.params ∧ t.env.decoded = s.env.decoded ∧
    t.env.mask1 = s.env.mask1 ∧ t.env.mask2 = s.env.mask2

/-- 60_exceptions.md R114, R121, R122: every run under any port values, of any length, from any state, goes on; and it
never changes the decoder parameters (00_scope.md R9; that they stand in the state is the model's choice, log entry
1). The clock edge is the spec's own envelope (D2; log entry 6). -/
def Obligations.EveryRunGoesOn : Prop :=
  ∀ (es : List ClockEdge) (s : State), ∃ t : State, runEdges es s = .next t ∧ t.params = s.params

/-- 10_state.md R32: the registers of the reset state; `tick_0` is the model's choice (log entry 3) and is left as
the tick its ports show; `level` and `phase` are the spec's own choice (D8, log entry 2). That no mask is presented
yet is 70_reset_and_hazards.md R132 (decision D13), held by the model as an absent mask on both ports (log
entry 7). -/
def Obligations.ResetStateRegisters : Prop :=
  State.reset.regs = ⟨0, 0, false, 0, State.reset.env.edge.inputs.tick, false⟩ ∧
  State.reset.mask .p1 = none ∧ State.reset.mask .p2 = none

/-! Invariants -/

/-- 10_state.md R33, at the reset state. The zeros are the spec's own (D9; log entry 2). -/
def Obligations.ResetStateBounded : Prop := State.reset.regs.Bounded

/-- 10_state.md R33, 41_csync_detector.md R82: every clock edge, a reset, a step or neither, keeps the bounds of the
three counters. It rests on the spec's own decisions D9 (log entry 2), D2 (log entry 6) and D10, D11, D20, D21 (log
entry 15). -/
def Obligations.EveryStepKeepsBounds : Prop :=
  ∀ s t : State, s.regs.Bounded → step s = .next t → t.regs.Bounded

/-- 41_csync_detector.md R82: at any edge, the stored accumulator never exceeds the larger of what it was and 5. It
rests on the spec's own readings D10, D20 and D21 (log entry 15), and at a reset on D9 (log entry 2). In states
outside the bounds it rests on log entries 8 and 9. The clock edge is the spec's own envelope (D2; log entry 6). -/
def Obligations.AccumulatorNeverGrowsPastFive : Prop :=
  ∀ s : State, ∃ t : State, step s = .next t ∧
    t.regs.hystAccum.toNat ≤ max s.regs.hystAccum.toNat 5

/-- 43_oscillator.md R96, R101 (decision D20, log entry 15): over any run of steps of one mode the other detector's
registers stand still. The clock edge is the spec's own envelope (D2; log entry 6). -/
def Obligations.UnselectedDetectorHolds : Prop :=
  ∀ (es : List ClockEdge) (s : State),
    ((∀ e ∈ es, stepsDetector s.params .timer e = true) → ∃ t : State, runEdges es s = .next t ∧
      t.regs.lpfCount = s.regs.lpfCount ∧ t.regs.lpfAccum = s.regs.lpfAccum ∧ t.regs.level = s.regs.level ∧
      t.regs.hystAccum = s.regs.hystAccum) ∧
    ((∀ e ∈ es, stepsDetector s.params .csync e = true) → ∃ t : State, runEdges es s = .next t ∧
      t.regs.lastDeadline = s.regs.lastDeadline)

/-! Laws over runs -/

/-- 30_encoding.md R62, 20_memory.md R34: the machine left to its own steps, with port values queued, does what it
does when the environment presents those values one by one (the queue is the model's choice: log entry 5); and a
loaded script queues its edges. That they come before what the environment would have presented, and that a script
without a `RESET` line starts from the tick at the port, is the model's choice, said by no rule (log entry 13).
`env.decoded` and the masks' place are the model's own (log entry 7). The clock edge is the spec's own envelope (D2;
log entry 6). -/
def Obligations.QueuedRunIsPresentedRun : Prop :=
  (∀ (es rest : List ClockEdge) (s : State), s.env.edge :: s.env.upcoming = es ++ rest →
    ∃ t u : State, Host.Core.run core es.length s = .next t ∧ runEdges es s = .next u ∧
      t.regs = u.regs ∧ t.params = u.params ∧ t.env.decoded = u.env.decoded ∧
      t.env.mask1 = u.env.mask1 ∧ t.env.mask2 = u.env.mask2) ∧
  (∀ (script : Stimulus) (s : State),
    (s.loadScript script).env.edge :: (s.loadScript script).env.upcoming =
      expandScript script s.env.edge.inputs.tick ++ s.env.edge :: s.env.upcoming ∧
    (s.loadScript script).regs = s.regs ∧ (s.loadScript script).params = s.params)

/-- 41_csync_detector.md R72, R73, R84 case 6: from an empty window, any run without a reset that holds exactly 48
`CSYNC` steps, with `TIMER` steps and idle edges anywhere between, ends with the window closed and `level` the
majority of those 48 samples, whatever their order. The call that closes is the spec's own reading (D11; log entry
15), the idle edges its own envelope (D2; log entry 6). -/
def Obligations.WindowVoteIsMajority : Prop :=
  ∀ (es : List ClockEdge) (s : State), s.regs.lpfCount = 0 → s.regs.lpfAccum = 0 → (∀ e ∈ es, e.rst = false) →
    (es.filter (stepsDetector s.params .csync)).length = 48 →
    ∃ t : State, runEdges es s = .next t ∧ t.regs.lpfCount = 0 ∧ t.regs.lpfAccum = 0 ∧
      t.regs.level =
        decide (24 ≤ (es.filter (stepsDetector s.params .csync)).countP (fun e => e.inputs.syncIn))

/-- 41_csync_detector.md R81: the divider law, with the starting accumulator `a < t`: over any run of `CSYNC` steps at
one speed with `k` qualifying edges the phase flips `floor((a + 2k) / t)` times and the accumulator ends at
`(a + 2k) mod t`. The threshold is compared once, only at an edge (D10; log entry 15). From a state with `lpf_count`
above 47 it rests on log entry 9. The clock edge is the spec's own envelope (D2; log entry 6). -/
def Obligations.DividerLaw : Prop :=
  ∀ w ∈ [((0 : Speed), 2), (1, 3), (2, 4), (3, 6)], ∀ (es : List ClockEdge) (s : State),
    (∀ e ∈ es, stepsAtSpeed s.params .csync w.1 e = true) → s.regs.hystAccum.toNat < w.2 →
    ∃ t : State, runEdges es s = .next t ∧
      countAlong phaseFlipped es s = (s.regs.hystAccum.toNat + 2 * countAlong levelFell es s) / w.2 ∧
      t.regs.hystAccum.toNat = (s.regs.hystAccum.toNat + 2 * countAlong levelFell es s) % w.2

/-- 41_csync_detector.md R74, R84 case 5, 70_reset_and_hazards.md R135: after a qualifying edge, and after a reset, no
edge and no flip comes in the next 95 `CSYNC` calls, whatever the speeds and the line do. It rests on the spec's own
decisions D8, D9 (log entry 2), D2 (log entry 6), D10 and D11 (log entry 15). Its first clause, from a state with
`lpf_count` above 47, rests on log entry 9. -/
def Obligations.EdgesAreTwoWindowsApart : Prop :=
  (∀ s : State, ∃ t : State, step s = .next t ∧
    ((s.env.edge.rst = true ∨ levelFell s t = true) → t.regs.lpfCount = 0 ∧ t.regs.level = false)) ∧
  (∀ (es : List ClockEdge) (s : State), s.regs.lpfCount = 0 → s.regs.level = false →
    (∀ e ∈ es, stepsDetector s.params .csync e = true) → es.length ≤ 95 →
    countAlong levelFell es s = 0 ∧ countAlong phaseFlipped es s = 0)

/-- 41_csync_detector.md R83: with the line constant from the start of a window on, there is at most one more edge and
at most one more flip, and none with the line stuck high. It rests on the spec's own readings D10, D11 (log entry 15).
The clock edge is the spec's own envelope (D2; log entry 6). -/
def Obligations.ConstantLineSettles : Prop :=
  ∀ (line : Bool) (es : List ClockEdge) (s : State), s.regs.lpfCount = 0 → s.regs.lpfAccum = 0 →
    (∀ e ∈ es, stepsDetector s.params .csync e = true ∧ e.inputs.syncIn = line) →
    countAlong levelFell es s ≤ 1 ∧ countAlong phaseFlipped es s ≤ 1 ∧
    (line = true → countAlong levelFell es s = 0 ∧ countAlong phaseFlipped es s = 0)

/-- 42_timer_detector.md R91, under `TickNoSkip` (70_reset_and_hazards.md R139): over any run of `TIMER` steps at one
speed, across any number of wraps, with `n` counts passed since the start of the first window, there have been
`floor(n / ms)` flips, the deadline has moved by that many steps, and the tick is `n mod ms` past it. The clock edge
is the spec's own envelope (D2; log entry 6). -/
def Obligations.TimerIntervalLaw : Prop :=
  ∀ w ∈ [((0 : Speed), 17), (1, 25), (2, 33), (3, 50)], ∀ (es : List ClockEdge) (s : State) (t0 : Tick),
    (∀ e ∈ es, stepsAtSpeed s.params .timer w.1 e = true) → TickNoSkip t0 (ticksOf es) →
    (t0 - s.regs.lastDeadline).toNat < w.2 →
    ∃ t : State, runEdges es s = .next t ∧
      countAlong phaseFlipped es s =
        ((t0 - s.regs.lastDeadline).toNat + totalAdvance t0 (ticksOf es)) / w.2 ∧
      t.regs.lastDeadline =
        s.regs.lastDeadline + BitVec.ofNat 16 (w.2 * countAlong phaseFlipped es s) ∧
      ((ticksOf es).getLastD t0 - t.regs.lastDeadline).toNat =
        ((t0 - s.regs.lastDeadline).toNat + totalAdvance t0 (ticksOf es)) % w.2

/-- 42_timer_detector.md R90, 43_oscillator.md R101: while the tick stands still at a distance `d`, each call flips
once until `floor(d / ms)` flips have been made, and then none does. The clock edge is the spec's own envelope (D2;
log entry 6). -/
def Obligations.TimerCatchesUpOneFlipPerCall : Prop :=
  ∀ w ∈ [((0 : Speed), 17), (1, 25), (2, 33), (3, 50)], ∀ (es : List ClockEdge) (s : State) (now : Tick),
    (∀ e ∈ es, stepsAtSpeed s.params .timer w.1 e = true ∧ e.inputs.tick = now) →
    ∃ t : State, runEdges es s = .next t ∧
      countAlong phaseFlipped es s = min es.length ((now - s.regs.lastDeadline).toNat / w.2) ∧
      t.regs.lastDeadline = s.regs.lastDeadline + BitVec.ofNat 16 (w.2 * countAlong phaseFlipped es s)

/-- 70_reset_and_hazards.md R139 (decision D19): with the last tick inside the window, an advance within
`TickMonotone` is seen as the true count, so the call flips exactly when the true count reaches the step size. -/
def Obligations.MonotoneTickSeenAsTrueCount : Prop :=
  ∀ w ∈ [((0 : Speed), 17), (1, 25), (2, 33), (3, 50)], ∀ (s : State) (t0 : Tick),
    (t0 - s.regs.lastDeadline).toNat < w.2 → TickMonotone t0 [s.env.edge.inputs.tick] →
    ∃ t : State, exec (.timerStep w.1) s = .next t ∧
      (t.regs.phase ≠ s.regs.phase ↔
        w.2 ≤ (t0 - s.regs.lastDeadline).toNat + (s.env.edge.inputs.tick - t0).toNat)

/-- 70_reset_and_hazards.md R135: after a reset the first `TIMER` step compares its tick with the one the reset
captured, and flips at once when it is a step size or more ahead. Phase 0 at the reset (D8; log entry 2), the clock
edge (D2; log entry 6) and the reset's priority (D21; log entry 15) are the spec's own decisions. Where the masks
stand is log entry 7. -/
def Obligations.FirstTimerStepAfterReset : Prop :=
  ∀ w ∈ [((0 : Speed), 17), (1, 25), (2, 33), (3, 50)], ∀ (s : State) (e0 e : ClockEdge), e0.rst = true →
    stepsAtSpeed s.params .timer w.1 e = true →
    ∃ t : State, runEdges [e0, e] s = .next t ∧
      (t.phaseOut = true ↔ w.2 ≤ (e.inputs.tick - e0.inputs.tick).toNat) ∧
      t.mask .p1 = some (routingTable (decodeConfig s.params e.inputs.sw).fireMode t.phaseOut e.inputs.btn1) ∧
      t.mask .p2 = some (routingTable (decodeConfig s.params e.inputs.sw).fireMode t.phaseOut e.inputs.btn2)
end

