-- ==== Sys2Proof/Laws/State.lean ====
section
/-! SUPPORT. What each update of the state leaves and what it sets: one lemma per component and update. -/

namespace Sys2Proof.Machine

variable (s : State) (lane : Player) (mask : Mask) (config : SwitchConfig) (e : ClockEdge)

@[simp] theorem present_regs : (s.present lane mask).regs = s.regs := by cases lane <;> rfl
@[simp] theorem present_params : (s.present lane mask).params = s.params := by cases lane <;> rfl
@[simp] theorem present_edge : (s.present lane mask).env.edge = s.env.edge := by cases lane <;> rfl
@[simp] theorem present_inputs : (s.present lane mask).inputs = s.inputs := by cases lane <;> rfl
@[simp] theorem present_upcoming : (s.present lane mask).env.upcoming = s.env.upcoming := by cases lane <;> rfl
@[simp] theorem present_freeIndex : (s.present lane mask).env.freeIndex = s.env.freeIndex := by cases lane <;> rfl
@[simp] theorem present_decoded : (s.present lane mask).env.decoded = s.env.decoded := by cases lane <;> rfl
@[simp] theorem present_p1_mask1 : (s.present .p1 mask).env.mask1 = some mask := rfl
@[simp] theorem present_p1_mask2 : (s.present .p1 mask).env.mask2 = s.env.mask2 := rfl
@[simp] theorem present_p2_mask1 : (s.present .p2 mask).env.mask1 = s.env.mask1 := rfl
@[simp] theorem present_p2_mask2 : (s.present .p2 mask).env.mask2 = some mask := rfl

@[simp] theorem showDecoded_regs : (s.showDecoded config).regs = s.regs := rfl
@[simp] theorem showDecoded_params : (s.showDecoded config).params = s.params := rfl
@[simp] theorem showDecoded_edge : (s.showDecoded config).env.edge = s.env.edge := rfl
@[simp] theorem showDecoded_inputs : (s.showDecoded config).inputs = s.inputs := rfl
@[simp] theorem showDecoded_upcoming : (s.showDecoded config).env.upcoming = s.env.upcoming := rfl
@[simp] theorem showDecoded_freeIndex : (s.showDecoded config).env.freeIndex = s.env.freeIndex := rfl
@[simp] theorem showDecoded_decoded : (s.showDecoded config).env.decoded = some config := rfl
@[simp] theorem showDecoded_mask1 : (s.showDecoded config).env.mask1 = s.env.mask1 := rfl
@[simp] theorem showDecoded_mask2 : (s.showDecoded config).env.mask2 = s.env.mask2 := rfl

@[simp] theorem runDetector_regs (mode : SyncMode) (speed : Speed) :
    (s.runDetector mode speed).regs = dispatchDetector mode speed s.inputs s.regs := rfl
@[simp] theorem runDetector_params (mode : SyncMode) (speed : Speed) :
    (s.runDetector mode speed).params = s.params := rfl
@[simp] theorem runDetector_env (mode : SyncMode) (speed : Speed) : (s.runDetector mode speed).env = s.env := rfl
@[simp] theorem runDetector_inputs (mode : SyncMode) (speed : Speed) :
    (s.runDetector mode speed).inputs = s.inputs := rfl

@[simp] theorem resetEvent_regs : s.resetEvent.regs = resetRegisters s.inputs.tick := rfl
@[simp] theorem resetEvent_params : s.resetEvent.params = s.params := rfl
@[simp] theorem resetEvent_edge : s.resetEvent.env.edge = s.env.edge := rfl
@[simp] theorem resetEvent_upcoming : s.resetEvent.env.upcoming = s.env.upcoming := rfl
@[simp] theorem resetEvent_freeIndex : s.resetEvent.env.freeIndex = s.env.freeIndex := rfl
@[simp] theorem resetEvent_decoded : s.resetEvent.env.decoded = none := rfl
@[simp] theorem resetEvent_mask1 : s.resetEvent.env.mask1 = none := rfl
@[simp] theorem resetEvent_mask2 : s.resetEvent.env.mask2 = none := rfl

@[simp] theorem withEdge_regs : (s.withEdge e).regs = s.regs := rfl
@[simp] theorem withEdge_params : (s.withEdge e).params = s.params := rfl
@[simp] theorem withEdge_edge : (s.withEdge e).env.edge = e := rfl
@[simp] theorem withEdge_inputs : (s.withEdge e).inputs = e.inputs := rfl
@[simp] theorem withEdge_upcoming : (s.withEdge e).env.upcoming = s.env.upcoming := rfl
@[simp] theorem withEdge_freeIndex : (s.withEdge e).env.freeIndex = s.env.freeIndex := rfl
@[simp] theorem withEdge_decoded : (s.withEdge e).env.decoded = s.env.decoded := rfl
@[simp] theorem withEdge_mask1 : (s.withEdge e).env.mask1 = s.env.mask1 := rfl
@[simp] theorem withEdge_mask2 : (s.withEdge e).env.mask2 = s.env.mask2 := rfl

@[simp] theorem passEdge_regs : s.passEdge.regs = s.regs := by unfold State.passEdge; split <;> rfl
@[simp] theorem passEdge_params : s.passEdge.params = s.params := by unfold State.passEdge; split <;> rfl
@[simp] theorem passEdge_decoded : s.passEdge.env.decoded = s.env.decoded := by
  unfold State.passEdge; split <;> rfl
@[simp] theorem passEdge_mask1 : s.passEdge.env.mask1 = s.env.mask1 := by unfold State.passEdge; split <;> rfl
@[simp] theorem passEdge_mask2 : s.passEdge.env.mask2 = s.env.mask2 := by unfold State.passEdge; split <;> rfl

/-- Where the environment's list is not empty, its head is presented next. -/
theorem passEdge_cons {rest : List ClockEdge} (h : s.env.upcoming = e :: rest) :
    s.passEdge = { s with env := { s.env with edge := e, upcoming := rest } } := by
  unfold State.passEdge; rw [h]

/-- Where it is empty, the free values of the counter's index are. -/
theorem passEdge_nil (h : s.env.upcoming = []) :
    s.passEdge =
      { s with env := { s.env with edge := freeEdge s.env.freeIndex, freeIndex := s.env.freeIndex + 1 } } := by
  unfold State.passEdge; rw [h]

end Sys2Proof.Machine
end

