-- ==== Sys2Proof/Laws/Ops.lean ====
section
/-! SUPPORT. For each shared operation, once, everything it can do; the provers cite these instead of unfolding it. -/

namespace Sys2Proof.Machine

/-- The four speeds. -/
theorem speed_cases (speed : Speed) : speed = 0 ∨ speed = 1 ∨ speed = 2 ∨ speed = 3 := by
  revert speed; decide

@[simp] theorem constants_lpfWindow : constants.lpfWindow = 48 := rfl
@[simp] theorem constants_lpfMajority : constants.lpfMajority = 24 := rfl
@[simp] theorem constants_hystInc : constants.hystInc = 2 := rfl
@[simp] theorem constants_groupAMask : constants.groupAMask = 0x07 := rfl
@[simp] theorem constants_groupShift : constants.groupShift = 3 := rfl
@[simp] theorem constants_allMask : constants.allMask = 0x3F := rfl

@[simp] theorem threshold_0 : threshold 0 = 2 := rfl
@[simp] theorem threshold_1 : threshold 1 = 3 := rfl
@[simp] theorem threshold_2 : threshold 2 = 4 := rfl
@[simp] theorem threshold_3 : threshold 3 = 6 := rfl
@[simp] theorem stepMs_0 : stepMs 0 = 17 := rfl
@[simp] theorem stepMs_1 : stepMs 1 = 25 := rfl
@[simp] theorem stepMs_2 : stepMs 2 = 33 := rfl
@[simp] theorem stepMs_3 : stepMs 3 = 50 := rfl

theorem threshold_bounds (speed : Speed) : 2 ≤ threshold speed ∧ threshold speed ≤ 6 := by
  revert speed; decide

theorem stepMs_bounds (speed : Speed) : 17 ≤ stepMs speed ∧ stepMs speed ≤ 50 := by
  revert speed; decide

theorem stepTicks_toNat (speed : Speed) : (stepTicks speed).toNat = stepMs speed := by
  have := stepMs_bounds speed
  simp only [stepTicks, BitVec.toNat_ofNat]
  omega

@[simp] theorem majorityVote_eq (acc : Nat) : majorityVote acc = decide (24 ≤ acc) := by
  by_cases h : acc < 24
  · simp [majorityVote, h]
  · simp [majorityVote, h, Nat.le_of_not_lt h]

@[simp] theorem windowOpen_eq (cnt : Nat) : windowOpen cnt = decide (cnt < 48) := rfl

/-- The window test as a comparison of the unsigned difference (42_timer_detector.md R87). -/
theorem insideWindow_iff (tick deadline : Tick) (speed : Speed) :
    insideWindow tick deadline (stepTicks speed) = true ↔ (tick - deadline).toNat < stepMs speed := by
  simp only [insideWindow, decide_eq_true_eq, BitVec.lt_def, stepTicks_toNat]

/-- A qualifying edge either reaches the threshold, subtracts it once and flips, or only accumulates; nothing else of
the registers moves (41_csync_detector.md R75, R76). -/
theorem hysteresis_cases (speed : Speed) (r : Registers) :
    (threshold speed ≤ r.hystAccum.toNat + 2 ∧
      hysteresis speed r =
        { r with hystAccum := BitVec.ofNat 8 (r.hystAccum.toNat + 2 - threshold speed), phase := !r.phase }) ∨
    (r.hystAccum.toNat + 2 < threshold speed ∧
      hysteresis speed r = { r with hystAccum := BitVec.ofNat 8 (r.hystAccum.toNat + 2) }) := by
  by_cases h : threshold speed ≤ r.hystAccum.toNat + 2
  · exact .inl ⟨h, by simp [hysteresis, h]⟩
  · exact .inr ⟨by omega, by simp [hysteresis, h]⟩

/-- The accumulator never wraps, whatever it held (41_csync_detector.md R82). -/
theorem hysteresis_hystAccum (speed : Speed) (r : Registers) :
    (hysteresis speed r).hystAccum.toNat =
      if threshold speed ≤ r.hystAccum.toNat + 2 then r.hystAccum.toNat + 2 - threshold speed
      else r.hystAccum.toNat + 2 := by
  have hb := threshold_bounds speed
  have hr := r.hystAccum.isLt
  rcases hysteresis_cases speed r with ⟨h, he⟩ | ⟨h, he⟩
  · simp only [he, BitVec.toNat_ofNat, h, if_true]; omega
  · simp only [he, BitVec.toNat_ofNat, Nat.not_le.mpr h, if_false]; omega

/-- `CSYNC.SAMPLE` either only counts, or closes the window, with or without a qualifying edge
(41_csync_detector.md R79). -/
theorem sampleCsync_cases (b : Bool) (speed : Speed) (r : Registers) :
    (r.lpfCount.toNat < 47 ∧
      sampleCsync b speed r =
        { r with
          lpfAccum := BitVec.ofNat 6 (r.lpfAccum.toNat + b.toNat)
          lpfCount := BitVec.ofNat 6 (r.lpfCount.toNat + 1) }) ∨
    (47 ≤ r.lpfCount.toNat ∧ r.level = true ∧ r.lpfAccum.toNat + b.toNat < 24 ∧
      sampleCsync b speed r = { hysteresis speed r with level := false, lpfAccum := 0, lpfCount := 0 }) ∨
    (47 ≤ r.lpfCount.toNat ∧ (r.level = false ∨ 24 ≤ r.lpfAccum.toNat + b.toNat) ∧
      sampleCsync b speed r =
        { r with level := decide (24 ≤ r.lpfAccum.toNat + b.toNat), lpfAccum := 0, lpfCount := 0 }) := by
  by_cases hc : r.lpfCount.toNat < 47
  · refine .inl ⟨hc, ?_⟩
    have : r.lpfCount.toNat + 1 < 48 := by omega
    simp [sampleCsync, this]
  · have hn : ¬ r.lpfCount.toNat + 1 < 48 := by omega
    by_cases ha : 24 ≤ r.lpfAccum.toNat + b.toNat
    · refine .inr (.inr ⟨by omega, .inr ha, ?_⟩)
      simp [sampleCsync, hn, closeWindow, fallingEdge, ha]
    · cases hl : r.level
      · refine .inr (.inr ⟨by omega, .inl rfl, ?_⟩)
        simp [sampleCsync, hn, closeWindow, fallingEdge, ha, hl]
      · refine .inr (.inl ⟨by omega, rfl, by omega, ?_⟩)
        simp [sampleCsync, hn, closeWindow, fallingEdge, ha, hl]

/-- `CSYNC.SAMPLE` never touches the deadline (41_csync_detector.md R70). -/
@[simp] theorem sampleCsync_lastDeadline (b : Bool) (speed : Speed) (r : Registers) :
    (sampleCsync b speed r).lastDeadline = r.lastDeadline := by
  rcases sampleCsync_cases b speed r with ⟨_, h⟩ | ⟨_, _, _, h⟩ | ⟨_, _, h⟩ <;> rw [h]
  rcases hysteresis_cases speed r with ⟨_, h'⟩ | ⟨_, h'⟩ <;> rw [h']

/-- `TIMER.STEP` either does nothing or moves the deadline by one step and flips (42_timer_detector.md R88, R89). -/
theorem stepTimer_cases (tick : Tick) (speed : Speed) (r : Registers) :
    ((tick - r.lastDeadline).toNat < stepMs speed ∧ stepTimer tick speed r = r) ∨
    (stepMs speed ≤ (tick - r.lastDeadline).toNat ∧
      stepTimer tick speed r = { r with lastDeadline := r.lastDeadline + stepTicks speed, phase := !r.phase }) := by
  have hi := insideWindow_iff tick r.lastDeadline speed
  by_cases h : (tick - r.lastDeadline).toNat < stepMs speed
  · exact .inl ⟨h, by simp [stepTimer, hi.mpr h]⟩
  · refine .inr ⟨by omega, ?_⟩
    have hf : insideWindow tick r.lastDeadline (stepTicks speed) = false := by
      rw [← Bool.not_eq_true]; exact fun hc => h (hi.mp hc)
    simp [stepTimer, hf]

/-- `TIMER.STEP` never touches the filter (42_timer_detector.md R85). -/
theorem stepTimer_filter (tick : Tick) (speed : Speed) (r : Registers) :
    (stepTimer tick speed r).lpfCount = r.lpfCount ∧ (stepTimer tick speed r).lpfAccum = r.lpfAccum ∧
    (stepTimer tick speed r).level = r.level ∧ (stepTimer tick speed r).hystAccum = r.hystAccum := by
  rcases stepTimer_cases tick speed r with ⟨_, h⟩ | ⟨_, h⟩ <;> simp [h]

/-- The step's effect on each component of the state (43_oscillator.md R98). -/
@[simp] theorem runStep_regs (config : SwitchConfig) (s : State) :
    (s.runStep config).regs = dispatchDetector config.syncMode config.speed s.inputs s.regs := by
  simp [State.runStep, State.routeLane]

@[simp] theorem runStep_params (config : SwitchConfig) (s : State) : (s.runStep config).params = s.params := by
  simp [State.runStep, State.routeLane]

@[simp] theorem runStep_env (config : SwitchConfig) (s : State) :
    (s.runStep config).env =
      { s.env with
        decoded := some config
        mask1 := some (routeMask config.fireMode (s.runStep config).regs.phase s.inputs.btn1)
        mask2 := some (routeMask config.fireMode (s.runStep config).regs.phase s.inputs.btn2) } := rfl

/-- A word's instruction runs the step with that configuration (30_encoding.md R57, R60). -/
theorem exec_stepInstr (config : SwitchConfig) (s : State) :
    exec (stepInstr config) s = .next (s.runStep config) := by
  obtain ⟨mode, fire, speed⟩ := config
  rcases speed_cases speed with rfl | rfl | rfl | rfl <;> cases mode <;> cases fire <;> rfl

/-- What a clock edge can do: the reset, one step of the word at port `sw`, or nothing (20_memory.md R42). -/
theorem step_cases (s : State) :
    (s.env.edge.rst = true ∧ step s = .next s.resetEvent.passEdge) ∨
    (s.env.edge.rst = false ∧ s.env.edge.stepEn = true ∧
      step s = .next (s.runStep (decodeConfig s.params s.inputs.sw)).passEdge) ∨
    (s.env.edge.rst = false ∧ s.env.edge.stepEn = false ∧ step s = .next s.passEdge) := by
  cases hr : s.env.edge.rst
  · cases he : s.env.edge.stepEn
    · exact .inr (.inr ⟨rfl, rfl, by simp [step, clockEdge, hr, he, thenPassEdge]⟩)
    · exact .inr (.inl ⟨rfl, rfl, by simp [step, clockEdge, hr, he, decode, exec_stepInstr, thenPassEdge]⟩)
  · exact .inl ⟨rfl, by simp [step, clockEdge, hr, thenPassEdge]⟩

end Sys2Proof.Machine
end

