-- ==== Sys2Proof/Laws/PerInstr.lean ====
section
/-! SUPPORT. A family of facts about every instruction as syntax: with the default parameters, an instruction's slot
of a word reads an operation of its row exactly when the word's masked bits are the row's match (30_encoding.md R56). -/

namespace Sys2Proof.Laws.SelectedByTable

/-- The row of the operation table that an instruction stands for selects exactly the words its mask and match say. -/
def Statement (i : Instr) : Prop :=
  ∀ sw : SwWord,
    (decodeSlot DecoderParams.default i.slot sw).mnemonic = i.mnemonic ↔ sw &&& i.maskMatch.1 = i.maskMatch.2

theorem stepCS0 : Statement .stepCS0 := by unfold Statement; decide
theorem stepTS0 : Statement .stepTS0 := by unfold Statement; decide
theorem stepCD0 : Statement .stepCD0 := by unfold Statement; decide
theorem stepTD0 : Statement .stepTD0 := by unfold Statement; decide
theorem stepCS1 : Statement .stepCS1 := by unfold Statement; decide
theorem stepTS1 : Statement .stepTS1 := by unfold Statement; decide
theorem stepCD1 : Statement .stepCD1 := by unfold Statement; decide
theorem stepTD1 : Statement .stepTD1 := by unfold Statement; decide
theorem stepCS2 : Statement .stepCS2 := by unfold Statement; decide
theorem stepTS2 : Statement .stepTS2 := by unfold Statement; decide
theorem stepCD2 : Statement .stepCD2 := by unfold Statement; decide
theorem stepTD2 : Statement .stepTD2 := by unfold Statement; decide
theorem stepCS3 : Statement .stepCS3 := by unfold Statement; decide
theorem stepTS3 : Statement .stepTS3 := by unfold Statement; decide
theorem stepCD3 : Statement .stepCD3 := by unfold Statement; decide
theorem stepTD3 : Statement .stepTD3 := by unfold Statement; decide
theorem cfgDecode : Statement .cfgDecode := by unfold Statement; decide
theorem oscDispatch (mode : SyncMode) (speed : Speed) : Statement (.oscDispatch mode speed) := by
  unfold Statement; cases mode <;> revert speed <;> decide
theorem csyncSample (speed : Speed) : Statement (.csyncSample speed) := by unfold Statement; revert speed; decide
theorem timerStep (speed : Speed) : Statement (.timerStep speed) := by unfold Statement; revert speed; decide
theorem routeSingle (lane : Player) : Statement (.routeSingle lane) := by unfold Statement; cases lane <;> decide
theorem routeDouble (lane : Player) : Statement (.routeDouble lane) := by unfold Statement; cases lane <;> decide

end Sys2Proof.Laws.SelectedByTable
end

