-- ==== Sys2Proof/Tests/Slice0.lean ====
section
/-! SUPPORT. Tests, with their expected results taken from spec/95_test_vectors.md and the worked examples of the
rules, and witnesses that meet the hypotheses of the statements. -/

namespace Sys2Proof.Tests

open Sys2Proof.Machine

/-! Helpers -/

/-- Registers in the order of 95_test_vectors.md: `{lpf_count, lpf_accum, level, hyst_accum, last_deadline, phase}`. -/
def regsOf (count accum : BitVec 6) (level : Bool) (hyst : BitVec 8) (deadline : Tick) (phase : Bool) : Registers :=
  ⟨count, accum, level, hyst, deadline, phase⟩

/-- The default machine with these registers and with a stimulus word at its ports, a step enabled. -/
def stateAt (r : Registers) (w : StimulusWord) : State :=
  { State.reset.withEdge ⟨false, true, decodeStimulus w⟩ with regs := r }

def regsAfter : Host.Outcome State Fault Refusal → Option Registers
  | .next s => some s.regs
  | .fault _ => none
  | .refused _ => none

def masksAfter : Host.Outcome State Fault Refusal → Option (Option Mask × Option Mask)
  | .next s => some (s.mask .p1, s.mask .p2)
  | .fault _ => none
  | .refused _ => none

def decodedAfter : Host.Outcome State Fault Refusal → Option SwitchConfig
  | .next s => s.env.decoded
  | .fault _ => none
  | .refused _ => none

/-! Decoding: words written out from 30_encoding.md R51 and R57 -/

theorem test_decode_0000 : decode .default 0b0000 = .stepCS0 := by decide
theorem test_decode_0001 : decode .default 0b0001 = .stepTS0 := by decide
theorem test_decode_0010 : decode .default 0b0010 = .stepCD0 := by decide
theorem test_decode_0011 : decode .default 0b0011 = .stepTD0 := by decide
theorem test_decode_0100 : decode .default 0b0100 = .stepCS1 := by decide
theorem test_decode_0101 : decode .default 0b0101 = .stepTS1 := by decide
theorem test_decode_0110 : decode .default 0b0110 = .stepCD1 := by decide
theorem test_decode_0111 : decode .default 0b0111 = .stepTD1 := by decide
theorem test_decode_1000 : decode .default 0b1000 = .stepCS2 := by decide
theorem test_decode_1001 : decode .default 0b1001 = .stepTS2 := by decide
theorem test_decode_1010 : decode .default 0b1010 = .stepCD2 := by decide
theorem test_decode_1011 : decode .default 0b1011 = .stepTD2 := by decide
theorem test_decode_1100 : decode .default 0b1100 = .stepCS3 := by decide
theorem test_decode_1101 : decode .default 0b1101 = .stepTS3 := by decide
theorem test_decode_1110 : decode .default 0b1110 = .stepCD3 := by decide
theorem test_decode_1111 : decode .default 0b1111 = .stepTD3 := by decide

/-- 30_encoding.md R56: the operations `0b1101` selects are `CFG.DECODE`, `OSC.DISPATCH` and `ROUTE.SINGLE`. -/
theorem test_operations_1101 :
    decodeOps .default 0b1101 = [.cfgDecode, .oscDispatch .timer 3, .routeSingle .p1, .routeSingle .p2] := by decide

theorem test_detector_slot_0100 : decodeSlot .default .detector 0b0100 = .csyncSample 1 := by decide
theorem test_detector_slot_1001 : decodeSlot .default .detector 0b1001 = .timerStep 2 := by decide
theorem test_router_slot_0010 : decodeSlot .default (.router .p2) 0b0010 = .routeDouble .p2 := by decide

/-- 95_test_vectors.md V1: `CFG_SPEED_MSB = 2` swaps the speeds of `0b0100` and `0b1000`. -/
theorem test_speed_order_bit2 :
    (decodeConfig ⟨false, false, .bit2⟩ 0b0100).speed = 2 ∧ (decodeConfig ⟨false, false, .bit2⟩ 0b1000).speed = 1 := by
  decide

/-- 95_test_vectors.md V1: the other polarities. -/
theorem test_polarities_inverted : decodeConfig ⟨true, true, .bit3⟩ 0b0000 = ⟨.timer, .double, 0⟩ := by decide

/-- 40_config_decoder.md R69: a wider word is reduced with `& 0xF`. -/
theorem test_table_word_reduced : decodeTableWord 8 0x3D = some .stepTS3 := by decide

/-- 30_encoding.md R61, the rule's example. -/
theorem test_stimulus_example :
    encodeStimulus ⟨0b1101, false, 65535, 0b111001, 0b111111⟩ = 0x1FFFFFF2D := by decide

theorem test_stimulus_back :
    decodeStimulus 0x1FFFFFF2D = ⟨0b1101, false, 65535, 0b111001, 0b111111⟩ := by decide

/-- 00_scope.md R8. -/
theorem test_constants :
    constants.tickBits = 16 ∧ constants.swBits = 4 ∧ constants.btnBits = 6 ∧ constants.players = 2 ∧
    constants.thresh.toList = [2, 3, 4, 6] ∧ constants.stepMs.toList = [17, 25, 33, 50] := by decide

/-! Well-formedness: an ill-formed term for each check -/

theorem test_wf_constants : constants.wellFormed = true := by decide
theorem test_wf_refuses_empty_window : { constants with lpfWindow := 0 }.wellFormed = false := by decide
theorem test_wf_refuses_long_window : { constants with lpfWindow := 65 }.wellFormed = false := by decide
theorem test_wf_refuses_majority : { constants with lpfMajority := 49 }.wellFormed = false := by decide
theorem test_wf_refuses_threshold : { constants with thresh := #v[1, 3, 4, 6] }.wellFormed = false := by decide
theorem test_wf_refuses_wide_threshold : { constants with thresh := #v[2, 3, 4, 256] }.wellFormed = false := by decide
theorem test_wf_refuses_zero_step : { constants with stepMs := #v[0, 25, 33, 50] }.wellFormed = false := by decide
theorem test_wf_refuses_long_step : { constants with stepMs := #v[17, 25, 33, 65536] }.wellFormed = false := by decide
theorem test_wf_refuses_tick_bits : { constants with tickBits := 15 }.wellFormed = false := by decide
theorem test_wf_refuses_sw_bits : { constants with swBits := 5 }.wellFormed = false := by decide
theorem test_wf_refuses_btn_bits : { constants with btnBits := 8 }.wellFormed = false := by decide
theorem test_wf_refuses_players : { constants with players := 3 }.wellFormed = false := by decide
theorem test_wf_word : swWellFormed 15 = true := by decide
theorem test_wf_refuses_wide_word : swWellFormed 16 = false := by decide
theorem test_wf_instr : (Instr.csyncSample 3).wellFormed = true := by decide
theorem test_wf_refuses_window : (Stimulus.seq (.reset 0) (.window 49 {})).wellFormed = false := by decide
theorem test_wf_refuses_nested_window : (Stimulus.times 2 (.window 49 {})).wellFormed = false := by decide

/-! The operations -/

/-- 40_config_decoder.md R64, the worked example: `0b1101` gives `TIMER`, `SINGLE`, 3. -/
theorem test_cfg_decode :
    decodedAfter (exec .cfgDecode (stateAt (regsOf 0 0 false 0 0 false) 0x00000000D)) = some ⟨.timer, .single, 3⟩ := by
  decide

/-- 95_test_vectors.md V2.10: edge, `t = 3`: `4 >= 3`, flip, 1 stored. -/
theorem test_csync_sample_flips :
    regsAfter (exec (.csyncSample 1) (stateAt (regsOf 47 0 true 2 0 false) 0x000000000)) =
      some (regsOf 0 0 false 1 0 true) := by decide

/-- 41_csync_detector.md R79, the worked example with `sync_in = 1`: 24 high samples vote 1, no edge. -/
theorem test_csync_sample_tie :
    regsAfter (exec (.csyncSample 1) (stateAt (regsOf 47 23 true 1 0 false) 0x000000010)) =
      some (regsOf 0 0 true 1 0 false) := by decide

/-- 95_test_vectors.md V5.13: last tick inside the wrapped window. -/
theorem test_timer_step_inside :
    regsAfter (exec (.timerStep 3) (stateAt (regsOf 0 0 false 0 65500 false) 0x0001A0001)) =
      some (regsOf 0 0 false 0 65500 false) := by decide

/-- 95_test_vectors.md V5.14: flip; `65500 + 50 = 14 mod 65536`. -/
theorem test_timer_step_wraps :
    regsAfter (exec (.timerStep 3) (stateAt (regsOf 0 0 false 0 65500 false) 0x0001C0001)) =
      some (regsOf 0 0 false 0 14 true) := by decide

/-- 95_test_vectors.md V2.16, through the dispatch: the largest stored accumulator. -/
theorem test_osc_dispatch_csync :
    regsAfter (exec (.oscDispatch .csync 0) (stateAt (regsOf 47 0 true 5 0 false) 0x000000000)) =
      some (regsOf 0 0 false 5 0 true) := by decide

/-- 95_test_vectors.md V5.17, through the dispatch: a tick one behind the deadline is outside. -/
theorem test_osc_dispatch_timer :
    regsAfter (exec (.oscDispatch .timer 0) (stateAt (regsOf 9 4 true 3 100 false) 0x000C60001)) =
      some (regsOf 9 4 true 3 117 true) := by decide

/-- 44_output_router.md R106, R107 with `buttons = 0b111001`. -/
theorem test_route_single :
    routeSingleMask true 0b111001 = 0b110000 ∧ routeSingleMask false 0b111001 = 0b000110 := by decide

/-- Lane 2 reads `btn2` and writes `mask2` only. -/
theorem test_route_single_lane :
    masksAfter (exec (.routeSingle .p2) (stateAt (regsOf 0 0 false 0 0 true) 0x00001CFE0)) =
      some (none, some 0b110000) := by decide

/-- 44_output_router.md R104, R105 with every button pressed. -/
theorem test_route_double :
    routeDoubleMask true 0b000000 = 0b000000 ∧ routeDoubleMask false 0b000000 = 0b111111 := by decide

/-- 95_test_vectors.md V7, row `101010`, on lane 1. -/
theorem test_route_double_lane :
    masksAfter (exec (.routeDouble .p1) (stateAt (regsOf 0 0 false 0 0 false) 0x000000542)) =
      some (some 0b010101, none) := by decide

/-! Whole steps: 95_test_vectors.md V8, with the spec's own stimulus words -/

theorem test_step_V8_1 :
    regsAfter (step (stateAt (regsOf 47 23 true 0 500 false) 0x04E1E0720)) = some (regsOf 0 0 false 0 500 true) ∧
    masksAfter (step (stateAt (regsOf 47 23 true 0 500 false) 0x04E1E0720)) =
      some (some 0b110000, some 0b111000) := by decide

theorem test_step_V8_2 :
    regsAfter (step (stateAt (regsOf 47 23 true 0 500 false) 0x04E1E0722)) = some (regsOf 0 0 false 0 500 true) ∧
    masksAfter (step (stateAt (regsOf 47 23 true 0 500 false) 0x04E1E0722)) =
      some (some 0b000000, some 0b000000) := by decide

theorem test_step_V8_3 :
    regsAfter (step (stateAt (regsOf 47 23 true 0 500 false) 0x004080721)) = some (regsOf 47 23 true 0 500 false) ∧
    masksAfter (step (stateAt (regsOf 47 23 true 0 500 false) 0x004080721)) =
      some (some 0b000110, some 0b000111) := by decide

theorem test_step_V8_4 :
    regsAfter (step (stateAt (regsOf 47 23 true 0 500 false) 0x0040A0721)) = some (regsOf 47 23 true 0 517 true) ∧
    masksAfter (step (stateAt (regsOf 47 23 true 0 500 false) 0x0040A0721)) =
      some (some 0b110000, some 0b111000) := by decide

theorem test_step_V8_5 :
    regsAfter (step (stateAt (regsOf 47 23 true 0 500 true) 0x0040A0733)) = some (regsOf 47 23 true 0 517 false) ∧
    masksAfter (step (stateAt (regsOf 47 23 true 0 500 true) 0x0040A0733)) =
      some (some 0b000110, some 0b111111) := by decide

theorem test_step_V8_7 :
    regsAfter (step (stateAt (regsOf 10 4 false 3 65535 true) 0x00063FABF)) = some (regsOf 10 4 false 3 49 false) ∧
    masksAfter (step (stateAt (regsOf 10 4 false 3 65535 true) 0x00063FABF)) =
      some (some 0b101010, some 0b000000) := by decide

theorem test_step_V8_8 :
    regsAfter (step (stateAt (regsOf 10 4 false 3 65535 true) 0x00063FABE)) = some (regsOf 11 5 false 3 65535 true) ∧
    masksAfter (step (stateAt (regsOf 10 4 false 3 65535 true) 0x00063FABE)) =
      some (some 0b000000, some 0b000000) := by decide

theorem test_step_V8_9 :
    regsAfter (step (stateAt (regsOf 47 0 true 4 0 true) 0x000016ECC)) = some (regsOf 0 0 false 0 0 false) ∧
    masksAfter (step (stateAt (regsOf 47 0 true 4 0 true) 0x000016ECC)) =
      some (some 0b000001, some 0b000010) := by decide

theorem test_step_V8_10 :
    regsAfter (step (stateAt (regsOf 0 0 false 0 0 false) 0x1FFFE0007)) = some (regsOf 0 0 false 0 25 true) ∧
    masksAfter (step (stateAt (regsOf 0 0 false 0 0 false) 0x1FFFE0007)) =
      some (some 0b000000, some 0b000000) := by decide

/-- 95_test_vectors.md V9.3: the deadline is captured in any mode; the reset wins over a step. -/
theorem test_reset_V9_3 :
    regsAfter (step ((stateAt (regsOf 31 17 true 5 1234 true) 0).withEdge ⟨true, true, quietInputs 40000⟩)) =
      some (regsOf 0 0 false 0 40000 false) := by decide

/-- 70_reset_and_hazards.md R132: no mask after a reset. -/
theorem test_reset_presents_no_mask :
    masksAfter (step { stateAt (regsOf 31 17 true 5 1234 true) 0 with
      env := { (stateAt (regsOf 31 17 true 5 1234 true) 0).env with
        edge := ⟨true, false, quietInputs 0⟩, mask1 := some 5, mask2 := some 6 } }) = some (none, none) := by decide

/-- The word at the fetch runs as the first step after reset, here `STEP.T.D.3`, nothing pressed. -/
theorem test_fetch_word_runs :
    decodedAfter (step (State.reset.withFetchWord 8 0b1111)) = some ⟨.timer, .double, 3⟩ := by decide

/-! The stimulus notation -/

/-- 95_test_vectors.md P2: the words of the first two steps after `RESET tick=65500`. -/
theorem test_script_run :
    (expandScript (.seq (.reset 65500)
      (.run 2 1 { sw := some 0b1111, b1 := some 0b000000, b2 := some 0b101010 })) 0).map
        (fun e => (e.rst, encodeStimulus e.inputs)) =
      [(true, 0x1FFB9FFE0), (false, 0x1FFBB500F), (false, 0x1FFBD500F)] := by decide

/-- 95_test_vectors.md P6: the words of the alternating samples. -/
theorem test_script_repeat :
    (expandScript (.seq (.reset 7) (.times 2 (.seq
      (.step { sw := some 0b0010, sync := some true, b1 := some 0b011011, b2 := some 0b111111 })
      (.step { sync := some false })))) 0).tail.map (fun e => encodeStimulus e.inputs) =
      [0x0000FFB72, 0x0000FFB62, 0x0000FFB72, 0x0000FFB62] := by decide

/-- 95_test_vectors.md P3: `HOLD` lines are identical. -/
theorem test_script_hold :
    (expandScript (.hold 2 { sw := some 0b0101, sync := some true, tick := some 1096 }) 1000).map
      (fun e => encodeStimulus e.inputs) = [0x00891FFF5, 0x00891FFF5] := by decide

/-- A loaded script is what the next steps sample. -/
theorem test_load_script :
    regsAfter (step (State.reset.loadScript (.seq (.reset 1000) (.step {})))) =
      some (regsOf 0 0 false 0 1000 false) := by decide

/-! Witnesses: concrete states and operands that meet the hypotheses of the statements of Certificates/Slice0 -/

/-- A step of the word `w`'s low bits, with a tick and a sync sample. -/
def edgeOf (sw : SwWord) (sync : Bool) (tick : Tick) : ClockEdge :=
  ⟨false, true, { quietInputs tick with sw := sw, syncIn := sync }⟩

def base : State := stateAt (regsOf 0 0 false 0 100 false) 0

theorem witness_ConfigFieldsReadFromTheirBits :
    DecoderParams.default.speedMsb = .bit3 ∧ (DecoderParams.mk true true .bit2).speedMsb = .bit2 := by decide

theorem witness_DecodedFieldsIndependent :
    ((0b1100 : SwWord).getLsbD 3 = (0b1111 : SwWord).getLsbD 3 ∧ (0b1100 : SwWord).getLsbD 2 = (0b1111 : SwWord).getLsbD 2) ∧
    (0b1110 : SwWord).getLsbD 0 = (0b0000 : SwWord).getLsbD 0 ∧
    (0b1101 : SwWord).getLsbD 1 = (0b0000 : SwWord).getLsbD 1 := by decide

theorem witness_EncodedInstructionDecodesBack : (Instr.oscDispatch .timer 3).wellFormed = true := by decide

theorem witness_PseudoOperationsExpand :
    (Stimulus.window 48 {}).wellFormed = true ∧ (Stimulus.window 0 {}).wellFormed = true ∧ 47 < 48 ∧ 0 < 1 := by decide

theorem witness_CfgDecodeYieldsConfig :
    base.params.speedMsb = .bit3 ∧ { base with params := ⟨false, false, .bit2⟩ }.params.speedMsb = .bit2 := by decide

theorem witness_CfgDecodeDependsOnWordOnly :
    base.params = (stateAt (regsOf 5 5 true 5 5 true) 0x1FFFFFFF0).params ∧
    base.env.edge.inputs.sw = (stateAt (regsOf 5 5 true 5 5 true) 0x1FFFFFFF0).env.edge.inputs.sw := by decide

theorem witness_CsyncSample_open :
    ((3 : Speed), 6) ∈ [((0 : Speed), 2), (1, 3), (2, 4), (3, 6)] ∧
    (stateAt (regsOf 46 46 true 0 0 false) 16).regs.lpfCount.toNat + 1 < 48 ∧
    (stateAt (regsOf 46 46 true 0 0 false) 16).regs.lpfAccum.toNat ≤
      (stateAt (regsOf 46 46 true 0 0 false) 16).regs.lpfCount.toNat := by decide

theorem witness_CsyncSample_noEdge :
    48 ≤ (stateAt (regsOf 47 23 true 0 0 false) 16).regs.lpfCount.toNat + 1 ∧
    ¬ ((stateAt (regsOf 47 23 true 0 0 false) 16).regs.level = true ∧
      (stateAt (regsOf 47 23 true 0 0 false) 16).regs.lpfAccum.toNat +
        (stateAt (regsOf 47 23 true 0 0 false) 16).env.edge.inputs.syncIn.toNat < 24) := by decide

theorem witness_CsyncSample_edgeBelow :
    48 ≤ (stateAt (regsOf 47 23 true 3 0 false) 0).regs.lpfCount.toNat + 1 ∧
    (stateAt (regsOf 47 23 true 3 0 false) 0).regs.level = true ∧
    (stateAt (regsOf 47 23 true 3 0 false) 0).regs.lpfAccum.toNat +
      (stateAt (regsOf 47 23 true 3 0 false) 0).env.edge.inputs.syncIn.toNat < 24 ∧
    (stateAt (regsOf 47 23 true 3 0 false) 0).regs.hystAccum.toNat + 2 < 6 := by decide

theorem witness_CsyncSample_edgeFlips :
    48 ≤ (stateAt (regsOf 47 23 true 4 0 false) 0).regs.lpfCount.toNat + 1 ∧
    (stateAt (regsOf 47 23 true 4 0 false) 0).regs.level = true ∧
    (stateAt (regsOf 47 23 true 4 0 false) 0).regs.lpfAccum.toNat +
      (stateAt (regsOf 47 23 true 4 0 false) 0).env.edge.inputs.syncIn.toNat < 24 ∧
    6 ≤ (stateAt (regsOf 47 23 true 4 0 false) 0).regs.hystAccum.toNat + 2 := by decide

theorem witness_WindowCloseVotesAndClears :
    (stateAt (regsOf 47 23 true 0 0 false) 16).regs.lpfCount.toNat = 47 := by decide

theorem witness_TimerStep_inside :
    ((3 : Speed), 50) ∈ [((0 : Speed), 17), (1, 25), (2, 33), (3, 50)] ∧
    ∃ j < 50, (stateAt (regsOf 0 0 false 0 65500 false) 0x0001A0001).env.edge.inputs.tick =
      (stateAt (regsOf 0 0 false 0 65500 false) 0x0001A0001).regs.lastDeadline + BitVec.ofNat 16 j :=
  ⟨by decide, 49, by decide, by decide⟩

theorem witness_TimerStep_outside :
    ¬ ∃ j < 50, (stateAt (regsOf 0 0 false 0 65500 false) 0x0001C0001).env.edge.inputs.tick =
      (stateAt (regsOf 0 0 false 0 65500 false) 0x0001C0001).regs.lastDeadline + BitVec.ofNat 16 j := by decide

theorem witness_Route_phases : base.regs.phase = false ∧ (stateAt (regsOf 0 0 false 0 0 true) 0).regs.phase = true := by
  decide

theorem witness_CsyncWordsRunStep :
    (Instr.stepCD3, FireMode.double, (3 : Speed)) ∈
      [(Instr.stepCS0, FireMode.single, (0 : Speed)), (.stepCD0, .double, 0), (.stepCS1, .single, 1),
      (.stepCD1, .double, 1), (.stepCS2, .single, 2), (.stepCD2, .double, 2), (.stepCS3, .single, 3),
      (.stepCD3, .double, 3)] := by decide

theorem witness_TimerWordsRunStep :
    (Instr.stepTS0, FireMode.single, (0 : Speed)) ∈
      [(Instr.stepTS0, FireMode.single, (0 : Speed)), (.stepTD0, .double, 0), (.stepTS1, .single, 1),
      (.stepTD1, .double, 1), (.stepTS2, .single, 2), (.stepTD2, .double, 2), (.stepTS3, .single, 3),
      (.stepTD3, .double, 3)] := by decide

/-- Two states that differ in the buttons of lane 2 only. -/
theorem witness_ButtonsReachOnlyTheirOwnMask :
    base.regs = (stateAt (regsOf 0 0 false 0 100 false) 0x1F800).regs ∧
    base.env.edge.rst = false ∧ base.env.edge.stepEn = true ∧
    (stateAt (regsOf 0 0 false 0 100 false) 0x1F800).env.edge =
      { base.env.edge with inputs := { base.env.edge.inputs with btn1 := 0, btn2 := 0b111111 } } ∧
    base.env.edge.inputs.btn2 ≠ 0b111111 ∧ base.env.edge.inputs.btn1 = 0 := by decide

/-- A `TIMER` step that differs in the sync sample, and a `CSYNC` step that differs in the tick. -/
theorem witness_UnreadPortHasNoEffect :
    stepsDetector base.params .timer (edgeOf 0b0001 false 7) = true ∧
    edgeOf 0b0001 true 7 = { edgeOf 0b0001 false 7 with
      inputs := { (edgeOf 0b0001 false 7).inputs with syncIn := true } } ∧
    stepsDetector base.params .csync (edgeOf 0b0000 false 7) = true := by decide

/-- The hypotheses about the edge are met, and the phase does change, by each of the two detectors. -/
theorem witness_PhaseFlipsOnlyByRunningDetector :
    (stateAt (regsOf 47 23 true 0 500 false) 0x04E1E0720).env.edge.rst = false ∧
    (regsAfter (step (stateAt (regsOf 47 23 true 0 500 false) 0x04E1E0720))).map (·.phase) = some true ∧
    (regsAfter (step (stateAt (regsOf 47 23 true 0 500 false) 0x0040A0721))).map (·.phase) = some true := by decide

theorem witness_StepRunsDecodedInstruction :
    base.env.edge.rst = false ∧ base.env.edge.stepEn = true ∧ base.env.upcoming = [] ∧
    (base.loadScript (.step {})).env.edge.rst = false ∧ (base.loadScript (.step {})).env.upcoming ≠ [] := by decide

theorem witness_FetchedWordRunsTableInstruction : State.reset.params = DecoderParams.default ∧ 15 < 16 := by decide

theorem witness_Reset_edges :
    (base.withEdge ⟨true, true, quietInputs 40000⟩).env.edge.rst = true ∧
    (State.reset.withEdge ⟨true, false, (edgeOf 0b1111 true 40000).inputs⟩).env.edge.rst = true ∧
    (State.reset.withEdge ⟨true, false, (edgeOf 0b1111 true 40000).inputs⟩).env.edge.inputs.tick = 40000 := by decide

theorem witness_IdleEdgeHoldsEverything :
    (base.withEdge ⟨false, false, quietInputs 9⟩).env.edge.rst = false ∧
    (base.withEdge ⟨false, false, quietInputs 9⟩).env.edge.stepEn = false := by decide

/-- The largest bounded state, which a step leaves through a window close. -/
theorem witness_EveryStepKeepsBounds :
    (stateAt (regsOf 47 47 true 5 0 false) 0).regs.Bounded ∧
    regsAfter (step (stateAt (regsOf 47 47 true 5 0 false) 0)) = some (regsOf 0 0 true 5 0 false) := by decide

theorem witness_QueuedRunIsPresentedRun :
    (base.loadScript (.step {})).env.edge :: (base.loadScript (.step {})).env.upcoming =
      [stepEdge base.env.edge.inputs |> fun e => { e with inputs := quietInputs 0 }] ++ [base.env.edge] := by decide

theorem witness_UnselectedDetectorHolds :
    (∀ e ∈ [edgeOf 0b0001 true 7, edgeOf 0b1111 false 9], stepsDetector base.params .timer e = true) ∧
    (∀ e ∈ [edgeOf 0b0000 true 7, edgeOf 0b1110 false 9], stepsDetector base.params .csync e = true) := by decide

/-- 24 high and 24 low samples with a `TIMER` step and an idle edge between. -/
theorem witness_WindowVoteIsMajority :
    base.regs.lpfCount = 0 ∧ base.regs.lpfAccum = 0 ∧
    (∀ e ∈ List.replicate 24 (edgeOf 0 true 0) ++ [edgeOf 1 true 0, ⟨false, false, quietInputs 0⟩] ++
      List.replicate 24 (edgeOf 0 false 0), e.rst = false) ∧
    ((List.replicate 24 (edgeOf 0 true 0) ++ [edgeOf 1 true 0, ⟨false, false, quietInputs 0⟩] ++
      List.replicate 24 (edgeOf 0 false 0)).filter (stepsDetector base.params .csync)).length = 48 := by decide

theorem witness_DividerLaw :
    (∀ e ∈ [edgeOf 0b0100 true 7, edgeOf 0b0110 false 9], stepsAtSpeed base.params .csync 1 e = true) ∧
    (stateAt (regsOf 47 0 true 2 0 false) 0).regs.hystAccum.toNat < 3 := by decide

theorem witness_EdgesAreTwoWindowsApart :
    base.regs.lpfCount = 0 ∧ base.regs.level = false ∧
    (∀ e ∈ List.replicate 95 (edgeOf 0 true 0), stepsDetector base.params .csync e = true) ∧
    (List.replicate 95 (edgeOf 0 true 0)).length ≤ 95 ∧
    (regsAfter (step (stateAt (regsOf 47 23 true 0 500 false) 0x04E1E0720))).map (·.level) = some false := by decide

theorem witness_ConstantLineSettles :
    base.regs.lpfCount = 0 ∧ base.regs.lpfAccum = 0 ∧
    (∀ e ∈ [edgeOf 0 true 0, edgeOf 2 true 0], stepsDetector base.params .csync e = true ∧ e.inputs.syncIn = true) := by
  decide

/-- A tick that stands, advances and wraps. -/
theorem witness_TimerIntervalLaw :
    (∀ e ∈ [edgeOf 0b1101 true 65535, edgeOf 0b1111 false 0, edgeOf 0b1111 false 0],
      stepsAtSpeed base.params .timer 3 e = true) ∧
    TickNoSkip 65534 (ticksOf [edgeOf 0b1101 true 65535, edgeOf 0b1111 false 0, edgeOf 0b1111 false 0]) ∧
    ((65534 : Tick) - (stateAt (regsOf 0 0 false 0 65500 false) 0).regs.lastDeadline).toNat < 50 :=
  ⟨by decide, ⟨by decide, by decide, by decide, trivial⟩, by decide⟩

theorem witness_TimerCatchesUpOneFlipPerCall :
    ∀ e ∈ [edgeOf 0b0101 true 1090, edgeOf 0b0111 false 1090],
      stepsAtSpeed base.params .timer 1 e = true ∧ e.inputs.tick = 1090 := by decide

theorem witness_MonotoneTickSeenAsTrueCount :
    ((149 : Tick) - base.regs.lastDeadline).toNat < 50 ∧
    TickMonotone 149 [(stateAt (regsOf 0 0 false 0 100 false) 0x0012E0001).env.edge.inputs.tick] :=
  ⟨by decide, by decide, trivial⟩

theorem witness_FirstTimerStepAfterReset :
    (⟨true, false, quietInputs 5⟩ : ClockEdge).rst = true ∧
    stepsAtSpeed base.params .timer 2 (edgeOf 0b1001 false 38) = true := by decide

end Sys2Proof.Tests
end

/-! PROOFS. The configuration decoder (40_config_decoder.md): it is read field by field from disjoint bits of the
word, and `encodeConfig` is its two-sided inverse. -/

namespace Sys2Proof.ConfigDecoder

/-! The decoder as three field readers -/

/-- The detector that a bit read at `SW[0]` names (30_encoding.md R52). -/
def syncModeOfBit (p : DecoderParams) (b0 : Bool) : SyncMode := if b0 = p.csyncValue then .csync else .timer

/-- The routing that a bit read at `SW[1]` names (30_encoding.md R53). -/
def fireModeOfBit (p : DecoderParams) (b1 : Bool) : FireMode := if b1 = p.singleValue then .single else .double

/-- The speed that the bits read at `SW[3]` and `SW[2]` name (30_encoding.md R54). -/
def speedOfPair (p : DecoderParams) (b3 b2 : Bool) : Speed :=
  match p.speedMsb with
  | .bit3 => speedOfBits b3 b2
  | .bit2 => speedOfBits b2 b3

theorem decodeConfig_syncMode (p : DecoderParams) (sw : SwWord) :
    (decodeConfig p sw).syncMode = syncModeOfBit p (sw.getLsbD 0) := rfl

theorem decodeConfig_fireMode (p : DecoderParams) (sw : SwWord) :
    (decodeConfig p sw).fireMode = fireModeOfBit p (sw.getLsbD 1) := rfl

theorem decodeConfig_speed (p : DecoderParams) (sw : SwWord) :
    (decodeConfig p sw).speed = speedOfPair p (sw.getLsbD 3) (sw.getLsbD 2) := rfl

/-- Settles O3: each field is a function of its own bits alone (40_config_decoder.md R67). -/
theorem decodedFieldsIndependent : Obligations.DecodedFieldsIndependent := by
  intro p sw sw'
  refine ⟨fun h3 h2 => ?_, fun h0 => ?_, fun h1 => ?_⟩
  · rw [decodeConfig_speed, decodeConfig_speed, h3, h2]
  · rw [decodeConfig_syncMode, decodeConfig_syncMode, h0]
  · rw [decodeConfig_fireMode, decodeConfig_fireMode, h1]

/-! Each field reader is inverse to the bits the encoder writes for that field -/

theorem syncModeOfBit_syncBit (p : DecoderParams) (mode : SyncMode) : syncModeOfBit p (syncBit p mode) = mode := by
  cases mode <;> simp [syncModeOfBit, syncBit]

theorem syncBit_syncModeOfBit (p : DecoderParams) (b0 : Bool) : syncBit p (syncModeOfBit p b0) = b0 := by
  by_cases h : b0 = p.csyncValue
  · simp [syncModeOfBit, syncBit, h]
  · simpa [syncModeOfBit, syncBit, h] using (Bool.eq_not.mpr h).symm

theorem fireModeOfBit_fireBit (p : DecoderParams) (mode : FireMode) : fireModeOfBit p (fireBit p mode) = mode := by
  cases mode <;> simp [fireModeOfBit, fireBit]

theorem fireBit_fireModeOfBit (p : DecoderParams) (b1 : Bool) : fireBit p (fireModeOfBit p b1) = b1 := by
  by_cases h : b1 = p.singleValue
  · simp [fireModeOfBit, fireBit, h]
  · simpa [fireModeOfBit, fireBit, h] using (Bool.eq_not.mpr h).symm

theorem speedOfBits_getLsbD (speed : Speed) : speedOfBits (speed.getLsbD 1) (speed.getLsbD 0) = speed := by
  revert speed; decide

theorem speedOfBits_bit1 (hi lo : Bool) : (speedOfBits hi lo).getLsbD 1 = hi := by revert hi lo; decide
theorem speedOfBits_bit0 (hi lo : Bool) : (speedOfBits hi lo).getLsbD 0 = lo := by revert hi lo; decide

theorem speedOfPair_speedBits (p : DecoderParams) (speed : Speed) :
    speedOfPair p (speedBits p speed).1 (speedBits p speed).2 = speed := by
  cases h : p.speedMsb <;> simp only [speedOfPair, speedBits, h, speedOfBits_getLsbD]

theorem speedBits_speedOfPair (p : DecoderParams) (b3 b2 : Bool) : speedBits p (speedOfPair p b3 b2) = (b3, b2) := by
  cases h : p.speedMsb <;> simp only [speedOfPair, speedBits, h, speedOfBits_bit1, speedOfBits_bit0]

/-! A word is its four bits -/

theorem packWord_getLsbD (sw : SwWord) :
    packWord (sw.getLsbD 3) (sw.getLsbD 2) (sw.getLsbD 1) (sw.getLsbD 0) = sw := by
  revert sw; decide

section
variable (b3 b2 b1 b0 : Bool)

theorem packWord_bit3 : (packWord b3 b2 b1 b0).getLsbD 3 = b3 := by revert b3 b2 b1 b0; decide
theorem packWord_bit2 : (packWord b3 b2 b1 b0).getLsbD 2 = b2 := by revert b3 b2 b1 b0; decide
theorem packWord_bit1 : (packWord b3 b2 b1 b0).getLsbD 1 = b1 := by revert b3 b2 b1 b0; decide
theorem packWord_bit0 : (packWord b3 b2 b1 b0).getLsbD 0 = b0 := by revert b3 b2 b1 b0; decide

end

/-! The encoder is the decoder's inverse -/

theorem switchConfig_ext {c d : SwitchConfig} (hsync : c.syncMode = d.syncMode) (hfire : c.fireMode = d.fireMode)
    (hspeed : c.speed = d.speed) : c = d := by
  cases c; cases d
  rw [SwitchConfig.mk.injEq]
  exact ⟨hsync, hfire, hspeed⟩

/-- Decoding the word of a configuration gives the configuration back: field by field, since the encoder writes each
field where the decoder reads it. -/
theorem decodeConfig_encodeConfig (p : DecoderParams) (c : SwitchConfig) : decodeConfig p (encodeConfig p c) = c := by
  have hsync : (decodeConfig p (encodeConfig p c)).syncMode = c.syncMode := by
    rw [decodeConfig_syncMode, encodeConfig, packWord_bit0, syncModeOfBit_syncBit]
  have hfire : (decodeConfig p (encodeConfig p c)).fireMode = c.fireMode := by
    rw [decodeConfig_fireMode, encodeConfig, packWord_bit1, fireModeOfBit_fireBit]
  have hspeed : (decodeConfig p (encodeConfig p c)).speed = c.speed := by
    rw [decodeConfig_speed, encodeConfig, packWord_bit3, packWord_bit2, speedOfPair_speedBits]
  exact switchConfig_ext hsync hfire hspeed

/-- Encoding a decoded word gives the word back: every bit of the word is read by some field. -/
theorem encodeConfig_decodeConfig (p : DecoderParams) (sw : SwWord) : encodeConfig p (decodeConfig p sw) = sw := by
  rw [encodeConfig, decodeConfig_syncMode, decodeConfig_fireMode, decodeConfig_speed, syncBit_syncModeOfBit,
    fireBit_fireModeOfBit, speedBits_speedOfPair, packWord_getLsbD]

/-- Settles O2: `encodeConfig` is the two-sided inverse (40_config_decoder.md R65). -/
theorem decoderIsBijection : Obligations.DecoderIsBijection := fun p =>
  Function.bijective_iff_has_inverse.mpr
    ⟨encodeConfig p, encodeConfig_decodeConfig p, decodeConfig_encodeConfig p⟩

end Sys2Proof.ConfigDecoder

/-! PROOFS. The `CSYNC` detector (41_csync_detector.md): the close of a window, register by register. Every fact is read
off the two ways a window can close, with a qualifying edge and without one. -/

namespace Sys2Proof.CsyncDetector

open Machine

theorem exec_csyncSample (speed : Speed) (s : State) :
    exec (.csyncSample speed) s = .next { s with regs := sampleCsync s.env.edge.inputs.syncIn speed s.regs } := rfl

/-- A qualifying edge always leaves a trace: it flips the phase, or it adds 2 to an accumulator too small to wrap
(41_csync_detector.md R75, R76). -/
theorem hysteresis_moves (speed : Speed) (r : Registers) :
    (hysteresis speed r).hystAccum ≠ r.hystAccum ∨ (hysteresis speed r).phase ≠ r.phase := by
  rcases hysteresis_cases speed r with ⟨_, hflip⟩ | ⟨hbelow, _⟩
  · exact .inr (by simp [hflip])
  · have hadd : (hysteresis speed r).hystAccum.toNat = r.hystAccum.toNat + 2 := by
      rw [hysteresis_hystAccum, if_neg (Nat.not_le.mpr hbelow)]
    exact .inl fun heq => by rw [heq] at hadd; omega

section
variable (b : Bool) (speed : Speed) {r : Registers}

/-- A call that closes a window does so with a qualifying edge or without one (41_csync_detector.md R79). -/
theorem sampleCsync_close_cases (hclose : 47 ≤ r.lpfCount.toNat) :
    (r.level = true ∧ r.lpfAccum.toNat + b.toNat < 24 ∧
      sampleCsync b speed r = { hysteresis speed r with level := false, lpfAccum := 0, lpfCount := 0 }) ∨
    ((r.level = false ∨ 24 ≤ r.lpfAccum.toNat + b.toNat) ∧
      sampleCsync b speed r =
        { r with level := decide (24 ≤ r.lpfAccum.toNat + b.toNat), lpfAccum := 0, lpfCount := 0 }) := by
  rcases sampleCsync_cases b speed r with ⟨hopen, _⟩ | ⟨_, hedge⟩ | ⟨_, hnone⟩
  · omega
  · exact .inl hedge
  · exact .inr hnone

/-- The vote over the window, the 48th sample included (41_csync_detector.md R73, R77). -/
theorem sampleCsync_close_level (hclose : 47 ≤ r.lpfCount.toNat) :
    (sampleCsync b speed r).level = decide (24 ≤ r.lpfAccum.toNat + b.toNat) := by
  rcases sampleCsync_close_cases b speed hclose with ⟨_, hlow, h⟩ | ⟨_, h⟩
  · simp [h, hlow]
  · rw [h]

/-- The counters of a closed window are 0 (41_csync_detector.md R78). -/
theorem sampleCsync_close_counters (hclose : 47 ≤ r.lpfCount.toNat) :
    (sampleCsync b speed r).lpfAccum = 0 ∧ (sampleCsync b speed r).lpfCount = 0 := by
  rcases sampleCsync_close_cases b speed hclose with ⟨_, _, h⟩ | ⟨_, h⟩ <;> rw [h] <;> exact ⟨rfl, rfl⟩

/-- The accumulator or the phase moves exactly at a qualifying edge, tested against the old level
(41_csync_detector.md R74 to R77). -/
theorem sampleCsync_close_moves_iff (hclose : 47 ≤ r.lpfCount.toNat) :
    ((sampleCsync b speed r).hystAccum ≠ r.hystAccum ∨ (sampleCsync b speed r).phase ≠ r.phase) ↔
      (r.level = true ∧ (sampleCsync b speed r).level = false) := by
  rcases sampleCsync_close_cases b speed hclose with ⟨hlevel, _, h⟩ | ⟨hnoEdge, h⟩
  · rw [h]
    exact iff_of_true (hysteresis_moves speed r) ⟨hlevel, rfl⟩
  · rw [h]
    refine iff_of_false (by simp) fun ⟨hold, hnew⟩ => ?_
    rcases hnoEdge with hlevel | hvote
    · simp [hlevel] at hold
    · simp [hvote] at hnew

end

/-- Settles O11: each clause is the fact about the closing call of the register it names (41_csync_detector.md R72 to
R78). -/
theorem windowCloseVotesAndClears : Obligations.WindowCloseVotesAndClears := by
  intro speed s hcount
  have hclose : 47 ≤ s.regs.lpfCount.toNat := hcount.ge
  obtain ⟨haccum, hcleared⟩ := sampleCsync_close_counters s.env.edge.inputs.syncIn speed hclose
  exact ⟨_, exec_csyncSample speed s, sampleCsync_close_level _ speed hclose, haccum, hcleared,
    sampleCsync_close_moves_iff _ speed hclose⟩

end Sys2Proof.CsyncDetector

/-! PROOFS. The timer detector (42_timer_detector.md): the circular window as a set of counter values against the
unsigned difference, and the two outcomes of `TIMER.STEP` read off that. -/

namespace Sys2Proof.TimerDetector

open Machine

theorem exec_timerStep (speed : Speed) (s : State) :
    exec (.timerStep speed) s = .next { s with regs := stepTimer s.env.edge.inputs.tick speed s.regs } := rfl

/-- Membership in the circular window, value by value, is the unsigned difference below its length: the offset of a
member is that difference, and a window no longer than the counter names no offset twice (42_timer_detector.md R87). -/
theorem mem_window_iff_toNat_sub_lt (tick deadline : Tick) {n : Nat} (hn : n ≤ 65536) :
    (∃ j < n, tick = deadline + BitVec.ofNat 16 j) ↔ (tick - deadline).toNat < n := by
  constructor
  · rintro ⟨j, hj, rfl⟩
    have hoffset : deadline + BitVec.ofNat 16 j - deadline = BitVec.ofNat 16 j := by
      rw [BitVec.add_comm, BitVec.add_sub_cancel]
    rw [hoffset, BitVec.toNat_ofNat, Nat.mod_eq_of_lt (hj.trans_le hn)]
    exact hj
  · intro hlt
    refine ⟨(tick - deadline).toNat, hlt, ?_⟩
    rw [BitVec.ofNat_toNat, BitVec.setWidth_eq, BitVec.add_comm, BitVec.sub_add_cancel]

section
variable {tick : Tick} {speed : Speed} {r : Registers}

theorem mem_window_stepMs_iff :
    (∃ j < stepMs speed, tick = r.lastDeadline + BitVec.ofNat 16 j) ↔
      (tick - r.lastDeadline).toNat < stepMs speed :=
  mem_window_iff_toNat_sub_lt tick r.lastDeadline ((stepMs_bounds speed).2.trans (by decide))

/-- Inside the window nothing is written (42_timer_detector.md R88). -/
theorem stepTimer_of_inside (hinside : (tick - r.lastDeadline).toNat < stepMs speed) : stepTimer tick speed r = r := by
  rcases stepTimer_cases tick speed r with ⟨_, h⟩ | ⟨houtside, _⟩
  · exact h
  · omega

/-- Outside it the deadline moves by one step size and the phase flips (42_timer_detector.md R88). -/
theorem stepTimer_of_outside (houtside : ¬ (tick - r.lastDeadline).toNat < stepMs speed) :
    stepTimer tick speed r = { r with lastDeadline := r.lastDeadline + stepTicks speed, phase := !r.phase } := by
  rcases stepTimer_cases tick speed r with ⟨hinside, _⟩ | ⟨_, h⟩
  · exact absurd hinside houtside
  · exact h

end

/-- The statement's pairs are the model's table of step sizes (42_timer_detector.md R86). -/
theorem stepMs_of_mem_pairs : ∀ w ∈ [((0 : Speed), 17), (1, 25), (2, 33), (3, 50)], w.2 = stepMs w.1 := by
  decide

/-- Settles O12: the window of values is the detector's unsigned comparison, and each side of it has one outcome
(42_timer_detector.md R86 to R88). -/
theorem timerStepTogglesOutsideWindow : Obligations.TimerStepTogglesOutsideWindow := by
  rintro ⟨speed, ms⟩ hw s
  obtain rfl : ms = stepMs speed := stepMs_of_mem_pairs _ hw
  refine ⟨fun hinside => ?_, fun houtside => ?_⟩
  · rw [exec_timerStep, stepTimer_of_inside (mem_window_stepMs_iff.mp hinside)]
  · rw [exec_timerStep, stepTimer_of_outside (mt mem_window_stepMs_iff.mpr houtside), stepTicks]

end Sys2Proof.TimerDetector

/-! PROOFS. The oscillator (43_oscillator.md): the dispatch is the operation of the detector its mode names, and each
detector's frame is stated on the registers. -/

namespace Sys2Proof.Oscillator

open Machine CsyncDetector TimerDetector

theorem exec_oscDispatch_csync (speed : Speed) (s : State) :
    exec (.oscDispatch .csync speed) s = exec (.csyncSample speed) s := rfl

theorem exec_oscDispatch_timer (speed : Speed) (s : State) :
    exec (.oscDispatch .timer speed) s = exec (.timerStep speed) s := rfl

/-- `CSYNC.SAMPLE` leaves the deadline as it was (41_csync_detector.md R70). -/
theorem sampleCsync_frame (b : Bool) (speed : Speed) (r : Registers) :
    sampleCsync b speed r = { sampleCsync b speed r with lastDeadline := r.lastDeadline } :=
  calc sampleCsync b speed r
      = { sampleCsync b speed r with lastDeadline := (sampleCsync b speed r).lastDeadline } := rfl
    _ = { sampleCsync b speed r with lastDeadline := r.lastDeadline } := by rw [sampleCsync_lastDeadline]

/-- `TIMER.STEP` writes the deadline and the phase only (42_timer_detector.md R85). -/
theorem stepTimer_frame (tick : Tick) (speed : Speed) (r : Registers) :
    stepTimer tick speed r =
      { r with
        lastDeadline := (stepTimer tick speed r).lastDeadline
        phase := (stepTimer tick speed r).phase } := by
  rcases stepTimer_cases tick speed r with ⟨_, hinside⟩ | ⟨_, houtside⟩
  · rw [hinside]
  · rw [houtside]

/-- Settles O14: the dispatch answers what the detector it names answers, and that detector keeps its frame
(43_oscillator.md R95). -/
theorem oscDispatchRunsOneDetector : Obligations.OscDispatchRunsOneDetector := by
  intro speed s
  constructor
  · refine ⟨_, (exec_oscDispatch_csync speed s).trans (exec_csyncSample speed s), exec_csyncSample speed s, ?_⟩
    exact congrArg (fun r => { s with regs := r }) (sampleCsync_frame _ speed s.regs)
  · refine ⟨_, (exec_oscDispatch_timer speed s).trans (exec_timerStep speed s), exec_timerStep speed s, ?_⟩
    exact congrArg (fun r => { s with regs := r }) (stepTimer_frame _ speed s.regs)

end Sys2Proof.Oscillator

/-! PROOFS. The output router (44_output_router.md): each routing function bit by bit in each phase, and a lane's
operation as the write of that mask to its own port. -/

namespace Sys2Proof.OutputRouter

open Machine

/-! The masks -/

section
variable (buttons : Buttons) {i : Nat}

/-- The complement stays within the lane's six bits, so that the mask `ALL` takes nothing away (R103). -/
theorem pressed_eq_not : pressed buttons = ~~~buttons := by
  rw [pressed, constants_allMask]
  exact BitVec.and_allOnes

theorem pressed_getLsbD (hi : i < 6) : (pressed buttons).getLsbD i = !buttons.getLsbD i := by
  rw [pressed_eq_not, BitVec.getLsbD_not, decide_eq_true hi, Bool.true_and]

theorem groupAMask_getLsbD : ∀ i < 6, constants.groupAMask.getLsbD i = decide (i < 3) := by decide

theorem routeDoubleMask_on : routeDoubleMask true buttons = 0 := rfl
theorem routeDoubleMask_off : routeDoubleMask false buttons = pressed buttons := rfl
theorem routeSingleMask_off : routeSingleMask false buttons = pressed buttons &&& constants.groupAMask := rfl

/-- With the phase on, `SINGLE` presents its mask for the phase off, moved to group B (R106). -/
theorem routeSingleMask_on : routeSingleMask true buttons = routeSingleMask false buttons <<< 3 := rfl

/-- With the phase off, group A keeps its pressed buttons and group B floats (R107). -/
theorem routeSingleMask_off_getLsbD (hi : i < 6) :
    (routeSingleMask false buttons).getLsbD i = (!buttons.getLsbD i && decide (i < 3)) := by
  rw [routeSingleMask_off, BitVec.getLsbD_and, pressed_getLsbD buttons hi, groupAMask_getLsbD i hi]

theorem routeSingleMask_off_groupA (hi : i < 3) :
    (routeSingleMask false buttons).getLsbD i = !buttons.getLsbD i := by
  rw [routeSingleMask_off_getLsbD buttons (by omega), decide_eq_true hi, Bool.and_true]

theorem routeSingleMask_off_groupB (hi : i < 3) : (routeSingleMask false buttons).getLsbD (3 + i) = false := by
  rw [routeSingleMask_off_getLsbD buttons (by omega), decide_eq_false (by omega), Bool.and_false]

theorem routeSingleMask_on_groupA (hi : i < 3) : (routeSingleMask true buttons).getLsbD i = false := by
  simp [routeSingleMask_on, hi]

theorem routeSingleMask_on_groupB (hi : i < 3) :
    (routeSingleMask true buttons).getLsbD (3 + i) = !buttons.getLsbD i := by
  have hline : 3 + i < 6 := by omega
  rw [routeSingleMask_on, BitVec.getLsbD_shiftLeft, ← routeSingleMask_off_groupA buttons hi]
  simp [hline]

end

/-! The operations -/

theorem exec_routeDouble (lane : Player) (s : State) :
    exec (.routeDouble lane) s =
      .next (s.present lane (routeDoubleMask s.regs.phase (buttonsOf s.env.edge.inputs lane))) := rfl

theorem exec_routeSingle (lane : Player) (s : State) :
    exec (.routeSingle lane) s =
      .next (s.present lane (routeSingleMask s.regs.phase (buttonsOf s.env.edge.inputs lane))) := rfl

/-- Settles O15: each lane presents `DOUBLE`'s mask of its own buttons, which is 0 with the phase on and the pressed
buttons with it off (44_output_router.md R104, R105). -/
theorem routeDoublePassesAllWhenOff : Obligations.RouteDoublePassesAllWhenOff := by
  intro s
  refine ⟨_, _, exec_routeDouble .p1 s, exec_routeDouble .p2 s, fun hon => ?_, fun hoff i hi => ?_⟩
  · rw [hon]
    exact ⟨routeDoubleMask_on _, routeDoubleMask_on _⟩
  · rw [hoff, routeDoubleMask_off, routeDoubleMask_off]
    exact ⟨pressed_getLsbD _ hi, pressed_getLsbD _ hi⟩

/-- Settles O16: each lane presents `SINGLE`'s mask of its own buttons, read group by group in each phase
(44_output_router.md R106, R107). -/
theorem routeSingleAlternatesGroupA : Obligations.RouteSingleAlternatesGroupA := by
  intro s
  refine ⟨_, _, exec_routeSingle .p1 s, exec_routeSingle .p2 s, fun hon i hi => ?_, fun hoff i hi => ?_⟩
  · rw [hon]
    exact ⟨routeSingleMask_on_groupA _ hi, routeSingleMask_on_groupB _ hi,
      routeSingleMask_on_groupA _ hi, routeSingleMask_on_groupB _ hi⟩
  · rw [hoff]
    exact ⟨routeSingleMask_off_groupA _ hi, routeSingleMask_off_groupB _ hi,
      routeSingleMask_off_groupA _ hi, routeSingleMask_off_groupB _ hi⟩

end Sys2Proof.OutputRouter

/-! PROOFS. Encoding (30_encoding.md): the encoder as the inverse of the decoder for whole words and slot by slot, and
what the decoder parameters permute. -/

namespace Sys2Proof.Encoding

open ConfigDecoder

/-! The slots of an encoded word -/

section
variable (p : DecoderParams) (b3 b2 b1 b0 : Bool)

theorem decodeConfig_packWord_syncMode (mode : SyncMode) :
    (decodeConfig p (packWord b3 b2 b1 (syncBit p mode))).syncMode = mode := by
  rw [decodeConfig_syncMode, packWord_bit0, syncModeOfBit_syncBit]

theorem decodeConfig_packWord_fireMode (mode : FireMode) :
    (decodeConfig p (packWord b3 b2 (fireBit p mode) b0)).fireMode = mode := by
  rw [decodeConfig_fireMode, packWord_bit1, fireModeOfBit_fireBit]

theorem decodeConfig_packWord_speed (speed : Speed) :
    (decodeConfig p (packWord (speedBits p speed).1 (speedBits p speed).2 b1 b0)).speed = speed := by
  rw [decodeConfig_speed, packWord_bit3, packWord_bit2, speedOfPair_speedBits]

end

theorem decode_encodeConfig (p : DecoderParams) (c : SwitchConfig) : decode p (encodeConfig p c) = stepInstr c := by
  rw [decode, decodeConfig_encodeConfig]

/-- Every instruction is read back from its own slot of its own word: a step word because the decoder inverts
`encodeConfig`, an operation because its slot reads only the fields the operation's word was packed from. -/
theorem decodeSlot_encode (p : DecoderParams) (i : Instr) : decodeSlot p i.slot (encode p i) = i := by
  cases i with
  | cfgDecode => rfl
  | oscDispatch mode speed =>
    simp only [Instr.slot, encode, decodeSlot, decodeConfig_packWord_syncMode, decodeConfig_packWord_speed]
  | csyncSample speed =>
    simp only [Instr.slot, encode, decodeSlot, decodeConfig_packWord_syncMode, decodeConfig_packWord_speed,
      detectorInstr]
  | timerStep speed =>
    simp only [Instr.slot, encode, decodeSlot, decodeConfig_packWord_syncMode, decodeConfig_packWord_speed,
      detectorInstr]
  | routeSingle lane =>
    simp only [Instr.slot, encode, decodeSlot, decodeConfig_packWord_fireMode, routerInstr]
  | routeDouble lane =>
    simp only [Instr.slot, encode, decodeSlot, decodeConfig_packWord_fireMode, routerInstr]
  | _ => exact decode_encodeConfig p _

/-- The word of the step with a configuration is the configuration's word. -/
theorem encode_stepInstr (p : DecoderParams) (c : SwitchConfig) : encode p (stepInstr c) = encodeConfig p c := by
  obtain ⟨mode, fire, speed⟩ := c
  rcases Machine.speed_cases speed with rfl | rfl | rfl | rfl <;> cases mode <;> cases fire <;> rfl

theorem encode_decode (p : DecoderParams) (sw : SwWord) : encode p (decode p sw) = sw := by
  rw [decode, encode_stepInstr, encodeConfig_decodeConfig]

/-- Settles O5: the slots give back every instruction, and the encoder every word (30_encoding.md R51, R56, R57). -/
theorem encodedInstructionDecodesBack : Obligations.EncodedInstructionDecodesBack :=
  ⟨fun p i _ => decodeSlot_encode p i, encode_decode⟩

/-! The fields by their bits -/

theorem syncModeOfBit_eq_csync_iff (p : DecoderParams) (b0 : Bool) :
    syncModeOfBit p b0 = .csync ↔ b0 = p.csyncValue := by
  simp [syncModeOfBit]

theorem fireModeOfBit_eq_single_iff (p : DecoderParams) (b1 : Bool) :
    fireModeOfBit p b1 = .single ↔ b1 = p.singleValue := by
  simp [fireModeOfBit]

theorem speedOfBits_toNat (hi lo : Bool) : (speedOfBits hi lo).toNat = 2 * hi.toNat + lo.toNat := by
  revert hi lo; decide

/-- Settles O1: each field reader read as a statement about its bits (30_encoding.md R52 to R54). -/
theorem configFieldsReadFromTheirBits : Obligations.ConfigFieldsReadFromTheirBits := by
  intro p sw
  refine ⟨syncModeOfBit_eq_csync_iff p _, fireModeOfBit_eq_single_iff p _, fun hmsb => ?_, fun hmsb => ?_⟩
  · simp only [decodeConfig_speed, speedOfPair, hmsb, speedOfBits_toNat]
  · simp only [decodeConfig_speed, speedOfPair, hmsb, speedOfBits_toNat]

/-! The polarities -/

/-- With the opposite polarity a bit names what the inverted bit named. -/
theorem syncModeOfBit_opposite (p : DecoderParams) (b0 : Bool) :
    syncModeOfBit { p with csyncValue := !p.csyncValue } b0 = syncModeOfBit p (!b0) := by
  simp only [syncModeOfBit, Bool.eq_not, Bool.not_eq]

theorem fireModeOfBit_opposite (p : DecoderParams) (b1 : Bool) :
    fireModeOfBit { p with singleValue := !p.singleValue } b1 = fireModeOfBit p (!b1) := by
  simp only [fireModeOfBit, Bool.eq_not, Bool.not_eq]

theorem decodeConfig_opposite_csyncValue (p : DecoderParams) (sw : SwWord) :
    decodeConfig { p with csyncValue := !p.csyncValue } sw = decodeConfig p (sw ^^^ 0b0001) := by
  refine switchConfig_ext ?_ ?_ ?_
  · rw [decodeConfig_syncMode, decodeConfig_syncMode, syncModeOfBit_opposite]
    simp
  · rw [decodeConfig_fireMode, decodeConfig_fireMode]
    simp [fireModeOfBit]
  · rw [decodeConfig_speed, decodeConfig_speed]
    simp [speedOfPair]

theorem decodeConfig_opposite_singleValue (p : DecoderParams) (sw : SwWord) :
    decodeConfig { p with singleValue := !p.singleValue } sw = decodeConfig p (sw ^^^ 0b0010) := by
  refine switchConfig_ext ?_ ?_ ?_
  · rw [decodeConfig_syncMode, decodeConfig_syncMode]
    simp [syncModeOfBit]
  · rw [decodeConfig_fireMode, decodeConfig_fireMode, fireModeOfBit_opposite]
    simp
  · rw [decodeConfig_speed, decodeConfig_speed]
    simp [speedOfPair]

/-- Settles O4: the eight rows by evaluation, the two permutations by the field each polarity belongs to
(30_encoding.md R57). -/
theorem wordsDecodeAsTabled : Obligations.WordsDecodeAsTabled := by
  refine ⟨by decide, by decide, by decide, by decide, by decide, by decide, by decide, by decide, fun p sw => ⟨?_, ?_⟩⟩
  · rw [decode, decode, decodeConfig_opposite_csyncValue]
  · rw [decode, decode, decodeConfig_opposite_singleValue]

end Sys2Proof.Encoding

/-! PROOFS. The stimulus word and the stimulus script (30_encoding.md R61 to R63): the word as the sum of its fields,
and the lines of a repetition as the iterates of one line. -/

namespace Sys2Proof.StimulusScript

open Machine

/-! The stimulus word -/

theorem fields_lt (i : Snapshot) :
    i.tick.toNat < 2 ^ 16 ∧ i.btn2.toNat < 2 ^ 6 ∧ i.btn1.toNat < 2 ^ 6 ∧ i.syncIn.toNat < 2 ∧ i.sw.toNat < 2 ^ 4 :=
  ⟨i.tick.isLt, i.btn2.isLt, i.btn1.isLt, i.syncIn.toNat_lt, i.sw.isLt⟩

/-- The fields do not overlap and fit the word, so that their sum is the word's value. -/
theorem encodeStimulus_toNat (i : Snapshot) :
    (encodeStimulus i).toNat =
      i.tick.toNat * 2 ^ 17 + i.btn2.toNat * 2 ^ 11 + i.btn1.toNat * 2 ^ 5 + i.syncIn.toNat * 2 ^ 4 + i.sw.toNat := by
  have hfields := fields_lt i
  rw [encodeStimulus, BitVec.toNat_ofNat, Nat.mod_eq_of_lt (by omega)]

theorem getLsbD_toNat {n : Nat} (w : BitVec n) (i : Nat) : (w.getLsbD i).toNat = w.toNat / 2 ^ i % 2 := by
  rw [BitVec.getLsbD, Nat.toNat_testBit]

section
variable (i : Snapshot)

theorem encodeStimulus_tick : (encodeStimulus i).toNat / 2 ^ 17 = i.tick.toNat := by
  have hfields := fields_lt i
  rw [encodeStimulus_toNat]; omega

theorem encodeStimulus_btn2 : (encodeStimulus i).toNat / 2 ^ 11 % 2 ^ 6 = i.btn2.toNat := by
  have hfields := fields_lt i
  rw [encodeStimulus_toNat]; omega

theorem encodeStimulus_btn1 : (encodeStimulus i).toNat / 2 ^ 5 % 2 ^ 6 = i.btn1.toNat := by
  have hfields := fields_lt i
  rw [encodeStimulus_toNat]; omega

theorem encodeStimulus_sw : (encodeStimulus i).toNat % 2 ^ 4 = i.sw.toNat := by
  have hfields := fields_lt i
  rw [encodeStimulus_toNat]; omega

theorem encodeStimulus_syncIn : (encodeStimulus i).getLsbD 4 = i.syncIn := by
  have hfields := fields_lt i
  have hbit : (encodeStimulus i).toNat / 2 ^ 4 % 2 = i.syncIn.toNat := by
    rw [encodeStimulus_toNat]; omega
  rw [BitVec.getLsbD, Nat.testBit_eq_decide_div_mod_eq, hbit]
  cases i.syncIn <;> rfl

theorem decodeStimulus_encodeStimulus : decodeStimulus (encodeStimulus i) = i := by
  have htick : BitVec.ofNat 16 ((encodeStimulus i).toNat / 2 ^ 17) = i.tick := by
    rw [encodeStimulus_tick, BitVec.ofNat_toNat, BitVec.setWidth_eq]
  have hbtn2 : BitVec.ofNat 6 ((encodeStimulus i).toNat / 2 ^ 11) = i.btn2 :=
    BitVec.eq_of_toNat_eq (by rw [BitVec.toNat_ofNat, encodeStimulus_btn2])
  have hbtn1 : BitVec.ofNat 6 ((encodeStimulus i).toNat / 2 ^ 5) = i.btn1 :=
    BitVec.eq_of_toNat_eq (by rw [BitVec.toNat_ofNat, encodeStimulus_btn1])
  have hsw : BitVec.ofNat 4 (encodeStimulus i).toNat = i.sw :=
    BitVec.eq_of_toNat_eq (by rw [BitVec.toNat_ofNat, encodeStimulus_sw])
  rw [decodeStimulus, htick, hbtn2, hbtn1, hsw, encodeStimulus_syncIn]

end

/-- No bit of the word lies outside the five fields. -/
theorem encodeStimulus_decodeStimulus (w : StimulusWord) : encodeStimulus (decodeStimulus w) = w := by
  have hw := w.isLt
  apply BitVec.eq_of_toNat_eq
  rw [encodeStimulus_toNat]
  simp only [decodeStimulus, BitVec.toNat_ofNat, getLsbD_toNat]
  omega

/-- Settles O6: the fields at their bits, and the two round trips (30_encoding.md R61). -/
theorem stimulusWordHoldsSnapshot : Obligations.StimulusWordHoldsSnapshot := by
  refine ⟨fun i => ⟨decodeStimulus_encodeStimulus i, ?_, ?_, ?_, encodeStimulus_syncIn i, ?_⟩,
    encodeStimulus_decodeStimulus⟩ <;> apply BitVec.eq_of_toNat_eq <;>
    rw [BitVec.extractLsb'_toNat, Nat.shiftRight_eq_div_pow]
  · rw [encodeStimulus_tick, Nat.mod_eq_of_lt i.tick.isLt]
  · exact encodeStimulus_btn2 i
  · exact encodeStimulus_btn1 i
  · rw [pow_zero, Nat.div_one, encodeStimulus_sw]

/-! The lines of a script -/

/-- Repeating one `STEP` line presents the iterates of what the line does to the port values. -/
theorem repeatLines_stepEdge (line : Snapshot → Snapshot) (count : Nat) (prev : Snapshot) :
    repeatLines (fun p => ([stepEdge (line p)], line p)) count prev =
      ((List.range count).map fun j => stepEdge (line^[j + 1] prev), line^[count] prev) := by
  induction count generalizing prev with
  | zero => rfl
  | succ count ih =>
    simp only [repeatLines, ih, List.range_succ_eq_map, List.map_cons, List.map_map, List.singleton_append]
    rfl

/-- What a line of `WINDOW` presents after a line that left `prev` (30_encoding.md R63). -/
def windowLine (f : LineFields) (sync : Bool) (prev : Snapshot) : Snapshot := { overLine f prev with syncIn := sync }

/-- What a line of `RUN` presents after a line that left `prev` (30_encoding.md R63). -/
def runLine (f : LineFields) (delta : Nat) (prev : Snapshot) : Snapshot :=
  { overLine f prev with tick := prev.tick + BitVec.ofNat 16 delta }

theorem expandFrom_window (high : Nat) (f : LineFields) (prev : Snapshot) :
    (expandFrom (.window high f) prev).1 =
      ((List.range high).map fun j => stepEdge ((windowLine f true)^[j + 1] prev)) ++
        (List.range (48 - high)).map fun j =>
          stepEdge ((windowLine f false)^[j + 1] ((windowLine f true)^[high] prev)) := by
  have hline (b : Bool) := repeatLines_stepEdge (windowLine f b)
  simp only [windowLine] at hline
  simp only [expandFrom, hline, constants_lpfWindow]

theorem expandFrom_run (count delta : Nat) (f : LineFields) (prev : Snapshot) :
    (expandFrom (.run count delta f) prev).1 =
      (List.range count).map fun j => stepEdge ((runLine f delta)^[j + 1] prev) :=
  congrArg Prod.fst (repeatLines_stepEdge (runLine f delta) count prev)

/-- A line's fields replace all that an earlier line with the same fields, or the same window, gave. -/
theorem windowLine_windowLine (f : LineFields) (b c : Bool) (prev : Snapshot) :
    windowLine f b (windowLine f c prev) = windowLine f b prev := by
  obtain ⟨sw, sync, tick, b1, b2⟩ := f
  cases sw <;> cases tick <;> cases b1 <;> cases b2 <;> rfl

theorem windowLine_iterate (f : LineFields) (b c : Bool) (n : Nat) (prev : Snapshot) :
    windowLine f b ((windowLine f c)^[n] prev) = windowLine f b prev := by
  induction n generalizing prev with
  | zero => rfl
  | succ n ih => rw [Function.iterate_succ_apply, ih, windowLine_windowLine]

/-- The line number `j` of a window shows the fields and its own sync sample. -/
theorem windowLine_iterate_succ (f : LineFields) (b : Bool) (j : Nat) (prev : Snapshot) :
    (windowLine f b)^[j + 1] prev = windowLine f b prev := by
  rw [Function.iterate_succ_apply', windowLine_iterate]

theorem runLine_fields (f : LineFields) (delta : Nat) (prev : Snapshot) (tick : Tick) :
    runLine f delta { overLine f prev with tick := tick } =
      { overLine f prev with tick := tick + BitVec.ofNat 16 delta } := by
  obtain ⟨sw, sync, tick', b1, b2⟩ := f
  cases sw <;> cases sync <;> cases b1 <;> cases b2 <;> rfl

/-- The line number `j` of a `RUN` shows the fields, and the tick `j + 1` advances on. -/
theorem runLine_iterate_succ (f : LineFields) (delta j : Nat) (prev : Snapshot) :
    (runLine f delta)^[j + 1] prev =
      { overLine f prev with tick := prev.tick + BitVec.ofNat 16 ((j + 1) * delta) } := by
  induction j with
  | zero => simp [runLine]
  | succ j ih =>
    rw [Function.iterate_succ_apply', ih, runLine_fields, BitVec.add_assoc, ← BitVec.ofNat_add,
      ← Nat.succ_mul (j + 1)]

/-- Settles O7: both expansions are repetitions of one line, whose iterates have a closed form (30_encoding.md
R63). -/
theorem pseudoOperationsExpand : Obligations.PseudoOperationsExpand := by
  refine ⟨fun high f prev hwf => ?_, fun count delta f prev => ?_⟩
  · have hhigh : high ≤ 48 := of_decide_eq_true hwf
    rw [expandFrom_window]
    simp only [windowLine_iterate_succ, windowLine_iterate]
    refine ⟨by simp; omega, fun j hj => ?_⟩
    by_cases hjh : j < high
    · rw [List.getElem?_append_left (by simpa using hjh)]
      simp [hjh, windowLine, stepEdge]
    · rw [List.getElem?_append_right (by simpa using hjh)]
      have hlow : j - high < 48 - high := by omega
      simp [hjh, hlow, windowLine, stepEdge]
  · rw [expandFrom_run]
    refine ⟨by simp, fun j hj => ?_⟩
    simp [hj, runLine_iterate_succ, stepEdge]

end Sys2Proof.StimulusScript

/-! PROOFS. The operations run alone, and the words that run them together (40_config_decoder.md to
44_output_router.md). -/

namespace Sys2Proof.Operations

open Machine ConfigDecoder CsyncDetector TimerDetector OutputRouter

/-! `CFG.DECODE` -/

theorem exec_cfgDecode (s : State) :
    exec .cfgDecode s =
      .next { s with env := { s.env with decoded := some (decodeConfig s.params s.env.edge.inputs.sw) } } := rfl

/-- Settles O8: the operation shows the decoded word, whose fields are read from their bits (40_config_decoder.md
R64). -/
theorem cfgDecodeYieldsConfig : Obligations.CfgDecodeYieldsConfig := fun s =>
  ⟨_, exec_cfgDecode s, Encoding.configFieldsReadFromTheirBits s.params s.env.edge.inputs.sw⟩

/-- Settles O9: what is shown is a function of the parameters and the word (40_config_decoder.md R66). -/
theorem cfgDecodeDependsOnWordOnly : Obligations.CfgDecodeDependsOnWordOnly := by
  intro s s' hparams hsw
  refine ⟨_, _, exec_cfgDecode s, exec_cfgDecode s', ?_, Option.some_ne_none _⟩
  rw [hparams, hsw]

/-! `CSYNC.SAMPLE` -/

/-- The statements' pairs are the model's table of thresholds (41_csync_detector.md R75). -/
theorem threshold_of_mem_pairs : ∀ w ∈ [((0 : Speed), 2), (1, 3), (2, 4), (3, 6)], w.2 = threshold w.1 := by
  decide

section
variable (b : Bool) (speed : Speed) {r : Registers}

/-- Below 48 the call only counts (41_csync_detector.md R72). -/
theorem sampleCsync_of_open (hopen : r.lpfCount.toNat < 47) :
    sampleCsync b speed r =
      { r with
        lpfAccum := BitVec.ofNat 6 (r.lpfAccum.toNat + b.toNat)
        lpfCount := BitVec.ofNat 6 (r.lpfCount.toNat + 1) } := by
  rcases sampleCsync_cases b speed r with ⟨_, h⟩ | ⟨hclose, _⟩ | ⟨hclose, _⟩
  · exact h
  · omega
  · omega

theorem sampleCsync_open_level (hopen : r.lpfCount.toNat < 47) : (sampleCsync b speed r).level = r.level := by
  rw [sampleCsync_of_open b speed hopen]

theorem sampleCsync_open_lpfCount (hopen : r.lpfCount.toNat < 47) :
    (sampleCsync b speed r).lpfCount.toNat = r.lpfCount.toNat + 1 := by
  rw [sampleCsync_of_open b speed hopen, BitVec.toNat_ofNat, Nat.mod_eq_of_lt (by omega)]

/-- The high samples of an open window do not wrap: there are no more of them than calls (log entry 8). -/
theorem sampleCsync_open_lpfAccum (hopen : r.lpfCount.toNat < 47) (hle : r.lpfAccum.toNat ≤ r.lpfCount.toNat) :
    (sampleCsync b speed r).lpfAccum.toNat = r.lpfAccum.toNat + b.toNat := by
  have hbit := b.toNat_le
  rw [sampleCsync_of_open b speed hopen, BitVec.toNat_ofNat, Nat.mod_eq_of_lt (by omega)]

theorem sampleCsync_of_edge (hclose : 47 ≤ r.lpfCount.toNat) (hlevel : r.level = true)
    (hlow : r.lpfAccum.toNat + b.toNat < 24) :
    sampleCsync b speed r = { hysteresis speed r with level := false, lpfAccum := 0, lpfCount := 0 } := by
  rcases sampleCsync_close_cases b speed hclose with ⟨_, _, h⟩ | ⟨hlevel' | hhigh, _⟩
  · exact h
  · simp [hlevel] at hlevel'
  · omega

theorem sampleCsync_of_noEdge (hclose : 47 ≤ r.lpfCount.toNat)
    (hnoEdge : ¬ (r.level = true ∧ r.lpfAccum.toNat + b.toNat < 24)) :
    sampleCsync b speed r =
      { r with level := decide (24 ≤ r.lpfAccum.toNat + b.toNat), lpfAccum := 0, lpfCount := 0 } := by
  rcases sampleCsync_close_cases b speed hclose with ⟨hlevel, hlow, _⟩ | ⟨_, h⟩
  · exact absurd ⟨hlevel, hlow⟩ hnoEdge
  · exact h

end

section
variable {speed : Speed} {r : Registers}

theorem hysteresis_of_below (hbelow : r.hystAccum.toNat + 2 < threshold speed) :
    hysteresis speed r = { r with hystAccum := BitVec.ofNat 8 (r.hystAccum.toNat + 2) } := by
  rcases hysteresis_cases speed r with ⟨hreached, _⟩ | ⟨_, h⟩
  · omega
  · exact h

theorem hysteresis_of_reached (hreached : threshold speed ≤ r.hystAccum.toNat + 2) :
    hysteresis speed r =
      { r with hystAccum := BitVec.ofNat 8 (r.hystAccum.toNat + 2 - threshold speed), phase := !r.phase } := by
  rcases hysteresis_cases speed r with ⟨_, h⟩ | ⟨hbelow, _⟩
  · exact h
  · omega

end

/-- Settles O10: an open window counts without wrapping, and each of the three ways to close has one outcome
(41_csync_detector.md R71 to R79). -/
theorem csyncSampleFollowsPseudocode : Obligations.CsyncSampleFollowsPseudocode := by
  rintro ⟨speed, t⟩ hw s
  obtain rfl : t = threshold speed := threshold_of_mem_pairs _ hw
  refine ⟨fun hcnt hle => ?_, fun hcnt hnoEdge => ?_, fun hcnt hlevel hlow hbelow => ?_,
    fun hcnt hlevel hlow hreached => ?_⟩
  · have hopen : s.regs.lpfCount.toNat < 47 := by omega
    refine ⟨_, exec_csyncSample speed s, ?_, sampleCsync_open_lpfAccum _ speed hopen hle,
      sampleCsync_open_lpfCount _ speed hopen⟩
    rw [sampleCsync_of_open _ speed hopen]
  · rw [exec_csyncSample, sampleCsync_of_noEdge _ speed (by omega) hnoEdge]
  · rw [exec_csyncSample, sampleCsync_of_edge _ speed (by omega) hlevel hlow, hysteresis_of_below hbelow]
  · rw [exec_csyncSample, sampleCsync_of_edge _ speed (by omega) hlevel hlow, hysteresis_of_reached hreached]

/-! `TIMER.STEP` -/

/-- The phase flips exactly outside the window (42_timer_detector.md R88). -/
theorem stepTimer_phase_ne_iff (tick : Tick) (speed : Speed) (r : Registers) :
    (stepTimer tick speed r).phase ≠ r.phase ↔ stepMs speed ≤ (tick - r.lastDeadline).toNat := by
  rcases stepTimer_cases tick speed r with ⟨hinside, h⟩ | ⟨houtside, h⟩ <;> rw [h]
  · exact iff_of_false (by simp) (by omega)
  · exact iff_of_true (by simp) houtside

/-- The deadline moves by one step size with each flip, modulo the counter's range (42_timer_detector.md R88). -/
theorem stepTimer_lastDeadline (tick : Tick) (speed : Speed) (r : Registers) :
    (stepTimer tick speed r).lastDeadline =
      r.lastDeadline + BitVec.ofNat 16 (if (stepTimer tick speed r).phase = r.phase then 0 else stepMs speed) := by
  rcases stepTimer_cases tick speed r with ⟨_, h⟩ | ⟨_, h⟩ <;> rw [h]
  · simp
  · simp [stepTicks]

/-- Settles O13: the flip by the unsigned difference, the deadline by the flip, and the detector's frame
(42_timer_detector.md R87, R89). -/
theorem timerStepComparesUnsignedDifference : Obligations.TimerStepComparesUnsignedDifference := by
  rintro ⟨speed, ms⟩ hw s
  obtain rfl : ms = stepMs speed := stepMs_of_mem_pairs _ hw
  refine ⟨_, exec_timerStep speed s, ?_, ?_,
    congrArg (fun r => { s with regs := r }) (Oscillator.stepTimer_frame _ speed s.regs)⟩
  · have hdeadline := s.regs.lastDeadline.isLt
    have hsub : (s.env.edge.inputs.tick - s.regs.lastDeadline).toNat =
        (s.env.edge.inputs.tick.toNat + 65536 - s.regs.lastDeadline.toNat) % 65536 := by
      rw [BitVec.toNat_sub]; congr 1; omega
    rw [stepTimer_phase_ne_iff, hsub]
  · simp [stepTimer_lastDeadline, BitVec.toNat_add, Nat.add_mod]

/-! The router -/

/-- The router's meaning is the source's table (44_output_router.md R108). -/
theorem routeMask_eq_routingTable (fireMode : FireMode) (on : Bool) (buttons : Buttons) :
    routeMask fireMode on buttons = routingTable fireMode on buttons := by
  cases fireMode <;> cases on
  · rw [routeMask, routeSingleMask_off, pressed_eq_not]; rfl
  · rw [routeMask, routeSingleMask_on, routeSingleMask_off, pressed_eq_not]; rfl
  · rfl
  · rfl

theorem routeMask_nothing_pressed : ∀ fireMode on, routeMask fireMode on 0x3F = 0 := by
  rintro (_ | _) (_ | _) <;> decide

section
variable (buttons : Buttons)

theorem routeMask_double_off_getLsbD_iff {i : Nat} (hi : i < 6) :
    (routeMask .double false buttons).getLsbD i = true ↔ buttons.getLsbD i = false := by
  rw [routeMask, routeDoubleMask_off, pressed_getLsbD buttons hi, Bool.not_eq_true']

theorem routeMask_single_off_getLsbD_iff {i : Nat} (hi : i < 6) :
    (routeMask .single false buttons).getLsbD i = true ↔ i < 3 ∧ buttons.getLsbD i = false := by
  rw [routeMask, routeSingleMask_off_getLsbD buttons hi]
  simp [and_comm]

theorem routeMask_single_on_groupB_iff {i : Nat} (hi : i < 3) :
    (routeMask .single true buttons).getLsbD (i + 3) = true ↔ buttons.getLsbD i = false := by
  rw [routeMask, Nat.add_comm i 3, routeSingleMask_on_groupB buttons hi, Bool.not_eq_true']

theorem routeMask_single_on_eq_shift : routeMask .single true buttons = routeMask .single false buttons <<< 3 := rfl

/-- The two masks of `SINGLE` have no line in common: one lies in group A, the other in group B. -/
theorem routeMask_single_disjoint : routeMask .single true buttons &&& routeMask .single false buttons = 0 := by
  refine BitVec.eq_of_getLsbD_eq fun i hi => ?_
  rw [routeMask, routeMask, BitVec.getLsbD_and, routeSingleMask_off_getLsbD buttons hi]
  by_cases hA : i < 3
  · simp [routeSingleMask_on_groupA buttons hA]
  · simp [hA]

/-- Group A fits the lane's lines after the move to group B, so that moving it back loses nothing. -/
theorem routeMask_single_on_shift_back : routeMask .single true buttons >>> 3 = routeMask .single false buttons := by
  refine BitVec.eq_of_getLsbD_eq fun i hi => ?_
  rw [BitVec.getLsbD_ushiftRight, routeMask, routeMask]
  by_cases hA : i < 3
  · rw [routeSingleMask_on_groupB buttons hA, routeSingleMask_off_groupA buttons hA]
  · rw [routeSingleMask_off_getLsbD buttons hi, BitVec.getLsbD_of_ge _ _ (by omega)]
    simp [hA]

end

/-- Settles O17: the guarantees, each read off the masks bit by bit (44_output_router.md R112). -/
theorem routingProperties : Obligations.RoutingProperties := fun b =>
  ⟨routeMask_nothing_pressed, fun _ hi => routeMask_double_off_getLsbD_iff b hi, routeDoubleMask_on b,
    routeMask_single_disjoint b, routeMask_single_on_eq_shift b, routeMask_single_on_shift_back b,
    fun _ hi => routeMask_single_off_getLsbD_iff b hi, fun _ hi => routeMask_single_on_groupB_iff b hi⟩

/-! The sixteen words -/

/-- A step writes the detector's registers, shows the configuration and routes both lanes by the source's table
(43_oscillator.md R98, R99). -/
theorem runStep_eq (config : SwitchConfig) (s : State) :
    s.runStep config =
      { s with
        regs := (s.runDetector config.syncMode config.speed).regs
        env := { s.env with
          decoded := some config
          mask1 := some (routingTable config.fireMode (s.runDetector config.syncMode config.speed).regs.phase
            s.env.edge.inputs.btn1)
          mask2 := some (routingTable config.fireMode (s.runDetector config.syncMode config.speed).regs.phase
            s.env.edge.inputs.btn2) } } := by
  simp only [← routeMask_eq_routingTable]
  rfl

theorem csyncWord_eq_stepInstr :
    ∀ w ∈ [(Instr.stepCS0, FireMode.single, (0 : Speed)), (.stepCD0, .double, 0), (.stepCS1, .single, 1),
      (.stepCD1, .double, 1), (.stepCS2, .single, 2), (.stepCD2, .double, 2), (.stepCS3, .single, 3),
      (.stepCD3, .double, 3)], w.1 = stepInstr ⟨.csync, w.2.1, w.2.2⟩ := by
  decide

theorem timerWord_eq_stepInstr :
    ∀ w ∈ [(Instr.stepTS0, FireMode.single, (0 : Speed)), (.stepTD0, .double, 0), (.stepTS1, .single, 1),
      (.stepTD1, .double, 1), (.stepTS2, .single, 2), (.stepTD2, .double, 2), (.stepTS3, .single, 3),
      (.stepTD3, .double, 3)], w.1 = stepInstr ⟨.timer, w.2.1, w.2.2⟩ := by
  decide

/-- Settles O18: a `CSYNC` word is the step of its configuration (43_oscillator.md R98, R99). -/
theorem csyncWordsRunStep : Obligations.CsyncWordsRunStep := by
  intro w hw s
  refine ⟨_, exec_csyncSample w.2.2 s, ?_⟩
  rw [csyncWord_eq_stepInstr w hw, exec_stepInstr, runStep_eq]
  rfl

/-- Settles O19: a `TIMER` word is the step of its configuration (43_oscillator.md R98, R99). -/
theorem timerWordsRunStep : Obligations.TimerWordsRunStep := by
  intro w hw s
  refine ⟨_, exec_timerStep w.2.2 s, ?_⟩
  rw [timerWord_eq_stepInstr w hw, exec_stepInstr, runStep_eq]
  rfl

end Sys2Proof.Operations

/-! PROOFS. Clock edges (20_memory.md R42): one edge as a function of the state, its effect on the registers as a
function of the parameters, the edge and the registers, and every claim about a single edge. -/

namespace Sys2Proof.ClockEdges

open Machine ConfigDecoder CsyncDetector TimerDetector Operations

/-! One clock edge as a function -/

/-- What a clock edge makes of the state; `step_eq` ties it to `step`. -/
def nextState (s : State) : State :=
  if s.env.edge.rst then s.resetEvent.passEdge
  else if s.env.edge.stepEn then (s.runStep (decodeConfig s.params s.env.edge.inputs.sw)).passEdge
  else s.passEdge

/-- What a clock edge makes of the registers; `nextState_regs` ties it to `nextState`. -/
def edgeRegs (p : DecoderParams) (e : ClockEdge) (r : Registers) : Registers :=
  if e.rst then resetRegisters e.inputs.tick
  else if e.stepEn then
    dispatchDetector (decodeConfig p e.inputs.sw).syncMode (decodeConfig p e.inputs.sw).speed e.inputs r
  else r

section
variable {s : State}

theorem nextState_of_reset (hrst : s.env.edge.rst = true) : nextState s = s.resetEvent.passEdge := by
  simp [nextState, hrst]

theorem nextState_of_step (hrst : s.env.edge.rst = false) (hen : s.env.edge.stepEn = true) :
    nextState s = (s.runStep (decodeConfig s.params s.env.edge.inputs.sw)).passEdge := by
  simp [nextState, hrst, hen]

theorem nextState_of_idle (hrst : s.env.edge.rst = false) (hen : s.env.edge.stepEn = false) :
    nextState s = s.passEdge := by
  simp [nextState, hrst, hen]

end

/-- Every clock edge gives a next state (60_exceptions.md R121). -/
theorem step_eq (s : State) : step s = .next (nextState s) := by
  rcases step_cases s with ⟨hrst, h⟩ | ⟨hrst, hen, h⟩ | ⟨hrst, hen, h⟩
  · rw [h, nextState_of_reset hrst]
  · rw [h, nextState_of_step hrst hen]; rfl
  · rw [h, nextState_of_idle hrst hen]

@[simp] theorem nextState_params (s : State) : (nextState s).params = s.params := by
  unfold nextState
  split
  · simp
  · split <;> simp

theorem nextState_regs (s : State) : (nextState s).regs = edgeRegs s.params s.env.edge s.regs := by
  unfold nextState edgeRegs
  split
  · simp [State.inputs]
  · split <;> simp [State.inputs]

/-- A step presents on each lane the mask for the phase it leaves and the lane's own buttons (43_oscillator.md R97,
R99). -/
theorem nextState_mask {s : State} (hrst : s.env.edge.rst = false) (hen : s.env.edge.stepEn = true) (lane : Player) :
    (nextState s).mask lane = some (routingTable (decodeConfig s.params s.env.edge.inputs.sw).fireMode
      (nextState s).regs.phase (buttonsOf s.env.edge.inputs lane)) := by
  cases lane <;> simp only [nextState_of_step hrst hen, State.mask, passEdge_mask1, passEdge_mask2, passEdge_regs,
    runStep_eq, buttonsOf]

/-! The effect of each kind of edge on the registers -/

theorem stepsDetector_iff (p : DecoderParams) (mode : SyncMode) (e : ClockEdge) :
    stepsDetector p mode e = true ↔
      e.rst = false ∧ e.stepEn = true ∧ (decodeConfig p e.inputs.sw).syncMode = mode := by
  simp [stepsDetector, and_assoc]

theorem stepsAtSpeed_iff (p : DecoderParams) (mode : SyncMode) (speed : Speed) (e : ClockEdge) :
    stepsAtSpeed p mode speed e = true ↔
      stepsDetector p mode e = true ∧ (decodeConfig p e.inputs.sw).speed = speed := by
  simp [stepsAtSpeed]

section
variable {p : DecoderParams} {e : ClockEdge} (r : Registers)

theorem edgeRegs_of_reset (hrst : e.rst = true) : edgeRegs p e r = resetRegisters e.inputs.tick := by
  simp [edgeRegs, hrst]

theorem edgeRegs_of_idle (hrst : e.rst = false) (hen : e.stepEn = false) : edgeRegs p e r = r := by
  simp [edgeRegs, hrst, hen]

theorem edgeRegs_of_csync (he : stepsDetector p .csync e = true) :
    edgeRegs p e r = sampleCsync e.inputs.syncIn (decodeConfig p e.inputs.sw).speed r := by
  obtain ⟨hrst, hen, hmode⟩ := (stepsDetector_iff p .csync e).mp he
  simp [edgeRegs, hrst, hen, hmode, dispatchDetector]

theorem edgeRegs_of_timer (he : stepsDetector p .timer e = true) :
    edgeRegs p e r = stepTimer e.inputs.tick (decodeConfig p e.inputs.sw).speed r := by
  obtain ⟨hrst, hen, hmode⟩ := (stepsDetector_iff p .timer e).mp he
  simp [edgeRegs, hrst, hen, hmode, dispatchDetector]

end

section
variable {p : DecoderParams} {e : ClockEdge} (r : Registers)

/-- A `TIMER` step does not read the sync sample (20_memory.md R37). -/
theorem edgeRegs_timer_of_syncIn (he : stepsDetector p .timer e = true) (sync : Bool) :
    edgeRegs p { e with inputs := { e.inputs with syncIn := sync } } r = edgeRegs p e r :=
  (edgeRegs_of_timer (e := { e with inputs := { e.inputs with syncIn := sync } }) r he).trans
    (edgeRegs_of_timer r he).symm

/-- A `CSYNC` step does not read the tick (20_memory.md R39). -/
theorem edgeRegs_csync_of_tick (he : stepsDetector p .csync e = true) (tick : Tick) :
    edgeRegs p { e with inputs := { e.inputs with tick := tick } } r = edgeRegs p e r :=
  (edgeRegs_of_csync (e := { e with inputs := { e.inputs with tick := tick } }) r he).trans
    (edgeRegs_of_csync r he).symm

end

/-- The four kinds of edge: a reset, a step of one of the two detectors, or neither (20_memory.md R42). -/
theorem edge_kinds (p : DecoderParams) (e : ClockEdge) :
    e.rst = true ∨ stepsDetector p .csync e = true ∨ stepsDetector p .timer e = true ∨
      (e.rst = false ∧ e.stepEn = false) := by
  simp only [stepsDetector_iff]
  cases e.rst <;> cases e.stepEn <;> cases (decodeConfig p e.inputs.sw).syncMode <;> simp

/-! Resets and idle edges -/

/-- Settles O25: the registers after a reset are a function of the tick (70_reset_and_hazards.md R131). -/
theorem resetCapturesTick : Obligations.ResetCapturesTick := by
  intro s hrst
  have hregs : (nextState s).regs = resetRegisters s.env.edge.inputs.tick := by
    rw [nextState_regs, edgeRegs_of_reset _ hrst]
  refine ⟨_, step_eq s, by rw [hregs]; rfl, fun s' hrst' htick => ⟨_, step_eq s', ?_⟩⟩
  rw [hregs, nextState_regs, edgeRegs_of_reset _ hrst', htick]

/-- Settles O26: the reset event from any state (70_reset_and_hazards.md R130, R132, R133). -/
theorem resetGivesInitialRegisters : Obligations.ResetGivesInitialRegisters := by
  intro s hrst
  refine ⟨_, step_eq s, ?_⟩
  rw [nextState_of_reset hrst]
  simp [State.inputs, State.phaseOut, State.mask, resetRegisters]

/-- Settles O27: only the port values pass on (20_memory.md R42). -/
theorem idleEdgeHoldsEverything : Obligations.IdleEdgeHoldsEverything := by
  intro s hrst hen
  refine ⟨_, step_eq s, ?_⟩
  rw [nextState_of_idle hrst hen]
  simp

/-- Settles O29: the reset state holds `S_0` and no mask (10_state.md R32). -/
theorem resetStateRegisters : Obligations.ResetStateRegisters := ⟨rfl, rfl, rfl⟩

/-! Steps -/

theorem instr_wellFormed (i : Instr) : i.wellFormed = true := by cases i <;> rfl

/-- When the next port values are presented, the ports are all that changes (20_memory.md R34). -/
theorem passEdge_frame (t : State) :
    t.passEdge = { t with env := { t.env with
      edge := t.passEdge.env.edge, upcoming := t.passEdge.env.upcoming, freeIndex := t.passEdge.env.freeIndex } } := by
  unfold State.passEdge
  split <;> rfl

/-- Settles O23: the step is the decoded word's instruction, then the next port values (20_memory.md R42, R49). -/
theorem stepRunsDecodedInstruction : Obligations.StepRunsDecodedInstruction := by
  intro s hrst hen
  refine ⟨instr_wellFormed _, _, _, exec_stepInstr _ s, (step_eq s).trans (by rw [nextState_of_step hrst hen]),
    passEdge_frame _, fun e rest hcons => ?_, fun hnil => ?_⟩
  · rw [passEdge_cons _ e hcons]
    exact ⟨rfl, rfl, rfl⟩
  · rw [passEdge_nil _ hnil]
    exact ⟨rfl, hnil, rfl⟩

/-- Settles O24: the table's reading of a word is the decoder's, and the fetch presents that word (30_encoding.md R57,
40_config_decoder.md R69). -/
theorem fetchedWordRunsTableInstruction : Obligations.FetchedWordRunsTableInstruction := by
  intro s nbits w hparams _
  refine ⟨_, rfl, Encoding.encode_decode _ _, _, _, exec_stepInstr _ _, step_eq _, ?_⟩
  have hnext : nextState (s.withFetchWord nbits w) =
      ((s.withFetchWord nbits w).runStep (decodeConfig DecoderParams.default (swOfNat w))).passEdge := by
    rw [nextState_of_step rfl rfl, ← hparams]; rfl
  rw [hnext]
  simp

/-- Two steps of one word that leave the same registers present the same mask on a lane whose buttons agree. -/
theorem nextState_mask_congr {s s' : State} (hparams : s.params = s'.params)
    (hstep : s.env.edge.rst = false ∧ s.env.edge.stepEn = true)
    (hstep' : s'.env.edge.rst = false ∧ s'.env.edge.stepEn = true)
    (hsw : s.env.edge.inputs.sw = s'.env.edge.inputs.sw) (hregs : (nextState s).regs = (nextState s').regs)
    (lane : Player) (hbuttons : buttonsOf s.env.edge.inputs lane = buttonsOf s'.env.edge.inputs lane) :
    (nextState s).mask lane = (nextState s').mask lane := by
  rw [nextState_mask hstep.1 hstep.2, nextState_mask hstep'.1 hstep'.2, hparams, hsw, hregs, hbuttons]

/-- Settles O20: no detector reads the buttons, and a lane's mask is routed from its own (44_output_router.md R109,
43_oscillator.md R100). -/
theorem buttonsReachOnlyTheirOwnMask : Obligations.ButtonsReachOnlyTheirOwnMask := by
  intro s s' hregs hparams hrst hen hedge
  have hstep' : s'.env.edge.rst = false ∧ s'.env.edge.stepEn = true := by rw [hedge]; exact ⟨hrst, hen⟩
  have hsw : s.env.edge.inputs.sw = s'.env.edge.inputs.sw := by rw [hedge]
  have hnext : (nextState s).regs = (nextState s').regs := by
    rw [nextState_regs, nextState_regs, hedge, hregs, hparams]; rfl
  exact ⟨_, _, step_eq s, step_eq s', hnext,
    nextState_mask_congr hparams ⟨hrst, hen⟩ hstep' hsw hnext .p1,
    nextState_mask_congr hparams ⟨hrst, hen⟩ hstep' hsw hnext .p2⟩

/-- Settles O21: each detector's step is a function of the port it reads, and the router reads neither
(43_oscillator.md R100). -/
theorem unreadPortHasNoEffect : Obligations.UnreadPortHasNoEffect := by
  intro s s' hregs hparams hrst hen hport
  obtain ⟨hrst', hen', hsw, hbtn1, hbtn2⟩ : s'.env.edge.rst = false ∧ s'.env.edge.stepEn = true ∧
      s.env.edge.inputs.sw = s'.env.edge.inputs.sw ∧ s.env.edge.inputs.btn1 = s'.env.edge.inputs.btn1 ∧
      s.env.edge.inputs.btn2 = s'.env.edge.inputs.btn2 := by
    rcases hport with ⟨_, hedge⟩ | ⟨_, hedge⟩ <;> rw [hedge] <;> exact ⟨hrst, hen, rfl, rfl, rfl⟩
  have hnext : (nextState s).regs = (nextState s').regs := by
    rcases hport with ⟨htimer, hedge⟩ | ⟨hcsync, hedge⟩ <;>
      rw [nextState_regs, nextState_regs, ← hregs, ← hparams, hedge]
    · exact (edgeRegs_timer_of_syncIn _ htimer _).symm
    · exact (edgeRegs_csync_of_tick _ hcsync _).symm
  exact ⟨_, _, step_eq s, step_eq s', hnext,
    nextState_mask_congr hparams ⟨hrst, hen⟩ ⟨hrst', hen'⟩ hsw hnext .p1 hbtn1,
    nextState_mask_congr hparams ⟨hrst, hen⟩ ⟨hrst', hen'⟩ hsw hnext .p2 hbtn2⟩

/-! The phase -/

/-- A `CSYNC` call either closes a window with a qualifying edge and runs the hysteresis, or has no qualifying edge and
leaves accumulator and phase alone (41_csync_detector.md R74, R76). -/
theorem sampleCsync_edge_or_hold (b : Bool) (speed : Speed) (r : Registers) :
    (47 ≤ r.lpfCount.toNat ∧ r.level = true ∧
      sampleCsync b speed r = { hysteresis speed r with level := false, lpfAccum := 0, lpfCount := 0 }) ∨
    (fallingEdge r.level (sampleCsync b speed r).level = false ∧
      (sampleCsync b speed r).hystAccum = r.hystAccum ∧ (sampleCsync b speed r).phase = r.phase) := by
  rcases sampleCsync_cases b speed r with ⟨_, h⟩ | ⟨hclose, hlevel, _, h⟩ | ⟨_, hnoEdge, h⟩
  · rw [h]
    exact .inr ⟨by simp [fallingEdge], rfl, rfl⟩
  · exact .inl ⟨hclose, hlevel, h⟩
  · rw [h]
    refine .inr ⟨?_, rfl, rfl⟩
    rcases hnoEdge with hlevel | hhigh
    · simp [fallingEdge, hlevel]
    · simp [fallingEdge, hhigh]

theorem add_stepTicks_ne (deadline : Tick) (speed : Speed) : deadline + stepTicks speed ≠ deadline := by
  intro heq
  have hbounds := stepMs_bounds speed
  have hsum := congrArg BitVec.toNat heq
  rw [BitVec.toNat_add, stepTicks_toNat] at hsum
  omega

/-- Settles O22: by the kind of the edge; a flip is a hysteresis at a close, or a tick outside the window
(41_csync_detector.md R80, 43_oscillator.md R97). -/
theorem phaseFlipsOnlyByRunningDetector : Obligations.PhaseFlipsOnlyByRunningDetector := by
  intro s hrst
  refine ⟨_, step_eq s, ?_⟩
  rw [nextState_regs]
  rcases edge_kinds s.params s.env.edge with hreset | hcsync | htimer | ⟨_, hidle⟩
  · simp [hrst] at hreset
  · obtain ⟨_, hen, _⟩ := (stepsDetector_iff ..).mp hcsync
    rw [edgeRegs_of_csync _ hcsync, sampleCsync_lastDeadline]
    intro hflip
    refine ⟨hen, .inl ⟨hcsync, ?_⟩⟩
    rcases sampleCsync_edge_or_hold s.env.edge.inputs.syncIn _ s.regs with ⟨hclose, hlevel, h⟩ | ⟨_, _, hphase⟩
    · exact ⟨hclose, hlevel, by rw [h], rfl⟩
    · exact absurd hphase hflip
  · obtain ⟨_, hen, _⟩ := (stepsDetector_iff ..).mp htimer
    rw [edgeRegs_of_timer _ htimer]
    intro hflip
    have houtside := (stepTimer_phase_ne_iff ..).mp hflip
    have hmin := (stepMs_bounds (decodeConfig s.params s.env.edge.inputs.sw).speed).1
    rw [stepTimer_of_outside (Nat.not_lt.mpr houtside)]
    exact ⟨hen, .inr ⟨htimer, hmin.trans houtside, add_stepTicks_ne _ _, rfl⟩⟩
  · rw [edgeRegs_of_idle _ hrst hidle]
    exact fun hflip => absurd rfl hflip

/-! The bounds of the counters -/

/-- The accumulator takes at most what a threshold leaves (41_csync_detector.md R82). -/
theorem hysteresis_hystAccum_le (speed : Speed) (r : Registers) :
    (hysteresis speed r).hystAccum.toNat ≤ max r.hystAccum.toNat 5 := by
  have hbounds := threshold_bounds speed
  rw [hysteresis_hystAccum]
  split <;> omega

theorem sampleCsync_hystAccum_le (b : Bool) (speed : Speed) (r : Registers) :
    (sampleCsync b speed r).hystAccum.toNat ≤ max r.hystAccum.toNat 5 := by
  rcases sampleCsync_edge_or_hold b speed r with ⟨_, _, h⟩ | ⟨_, hhold, _⟩
  · rw [h]
    exact hysteresis_hystAccum_le speed r
  · rw [hhold]
    exact le_max_left ..

theorem edgeRegs_hystAccum_le (p : DecoderParams) (e : ClockEdge) (r : Registers) :
    (edgeRegs p e r).hystAccum.toNat ≤ max r.hystAccum.toNat 5 := by
  rcases edge_kinds p e with hreset | hcsync | htimer | ⟨hrst, hidle⟩
  · rw [edgeRegs_of_reset _ hreset]
    exact Nat.zero_le _
  · rw [edgeRegs_of_csync _ hcsync]
    exact sampleCsync_hystAccum_le ..
  · obtain ⟨_, _, _, hhyst⟩ := stepTimer_filter e.inputs.tick (decodeConfig p e.inputs.sw).speed r
    rw [edgeRegs_of_timer _ htimer, hhyst]
    exact le_max_left ..
  · rw [edgeRegs_of_idle _ hrst hidle]
    exact le_max_left ..

/-- Settles O32: at every kind of edge (41_csync_detector.md R82). -/
theorem accumulatorNeverGrowsPastFive : Obligations.AccumulatorNeverGrowsPastFive := fun s =>
  ⟨_, step_eq s, by rw [nextState_regs]; exact edgeRegs_hystAccum_le ..⟩

theorem resetRegisters_bounded (tick0 : Tick) : (resetRegisters tick0).Bounded :=
  ⟨Nat.zero_le _, Nat.le_refl _, Nat.zero_le _⟩

/-- Settles O30: the reset state holds a reset's registers (10_state.md R33). -/
theorem resetStateBounded : Obligations.ResetStateBounded := resetRegisters_bounded powerOnTick

/-- The window's counters stay in their bounds: an open window counts each call once and at most one high sample with
it, a close clears both (41_csync_detector.md R72, R78). -/
theorem sampleCsync_counters_le (b : Bool) (speed : Speed) {r : Registers}
    (hle : r.lpfAccum.toNat ≤ r.lpfCount.toNat) :
    (sampleCsync b speed r).lpfCount.toNat ≤ 47 ∧
      (sampleCsync b speed r).lpfAccum.toNat ≤ (sampleCsync b speed r).lpfCount.toNat := by
  by_cases hopen : r.lpfCount.toNat < 47
  · have hbit := b.toNat_le
    rw [sampleCsync_open_lpfCount b speed hopen, sampleCsync_open_lpfAccum b speed hopen hle]
    omega
  · obtain ⟨haccum, hcount⟩ := sampleCsync_close_counters b speed (Nat.not_lt.mp hopen)
    rw [haccum, hcount]
    decide

theorem sampleCsync_bounded (b : Bool) (speed : Speed) {r : Registers} (hr : r.Bounded) :
    (sampleCsync b speed r).Bounded := by
  obtain ⟨_, haccum, hhyst⟩ := hr
  obtain ⟨hcount', haccum'⟩ := sampleCsync_counters_le b speed haccum
  exact ⟨hcount', haccum', (sampleCsync_hystAccum_le b speed r).trans (max_le hhyst le_rfl)⟩

theorem edgeRegs_bounded (p : DecoderParams) (e : ClockEdge) {r : Registers} (hr : r.Bounded) :
    (edgeRegs p e r).Bounded := by
  rcases edge_kinds p e with hreset | hcsync | htimer | ⟨hrst, hidle⟩
  · rw [edgeRegs_of_reset _ hreset]
    exact resetRegisters_bounded _
  · rw [edgeRegs_of_csync _ hcsync]
    exact sampleCsync_bounded _ _ hr
  · obtain ⟨hcount, haccum, _, hhyst⟩ := stepTimer_filter e.inputs.tick (decodeConfig p e.inputs.sw).speed r
    rw [edgeRegs_of_timer _ htimer, Registers.Bounded, hcount, haccum, hhyst]
    exact hr
  · rw [edgeRegs_of_idle _ hrst hidle]
    exact hr

/-- Settles O31: the only next state is `nextState`, whose registers every kind of edge keeps in the bounds
(10_state.md R33). -/
theorem everyStepKeepsBounds : Obligations.EveryStepKeepsBounds := by
  intro s t hbounded hstep
  obtain rfl : nextState s = t := Host.Outcome.next.inj ((step_eq s).symm.trans hstep)
  rw [nextState_regs]
  exact edgeRegs_bounded _ _ hbounded

/-! The true count of the timer -/

/-- Distances on the circle add up as long as they stay below one turn. -/
theorem toNat_sub_add_toNat_sub {deadline t0 tick : Tick}
    (hturn : (t0 - deadline).toNat + (tick - t0).toNat < 65536) :
    (tick - deadline).toNat = (t0 - deadline).toNat + (tick - t0).toNat := by
  rw [← sub_add_sub_cancel' t0 deadline tick, BitVec.toNat_add, Nat.mod_eq_of_lt hturn]

/-- Settles O41: the two distances add up without a wrap, and the call compares their sum (70_reset_and_hazards.md
R139). -/
theorem monotoneTickSeenAsTrueCount : Obligations.MonotoneTickSeenAsTrueCount := by
  rintro ⟨speed, ms⟩ hw s t0 hinside ⟨hadvance, _⟩
  obtain rfl : ms = stepMs speed := stepMs_of_mem_pairs _ hw
  have hbounds := stepMs_bounds speed
  refine ⟨_, exec_timerStep speed s, ?_⟩
  rw [stepTimer_phase_ne_iff, toNat_sub_add_toNat_sub (t0 := t0) (by omega)]

end Sys2Proof.ClockEdges

/-! PROOFS. Runs: a run as the fold of `nextState` over its edges, what a whole run keeps, and the host's own run. -/

namespace Sys2Proof.Runs

open Machine ConfigDecoder TimerDetector Operations ClockEdges

/-! A run as a function -/

/-- What the state becomes when the environment presents `e` at the coming edge. -/
def stepUnder (e : ClockEdge) (s : State) : State := nextState (s.withEdge e)

/-- What the state becomes under the given edges; `runEdges_eq` ties it to `runEdges`. -/
def runUnder (es : List ClockEdge) (s : State) : State := es.foldl (fun s e => stepUnder e s) s

@[simp] theorem runUnder_nil (s : State) : runUnder [] s = s := rfl

@[simp] theorem runUnder_cons (e : ClockEdge) (es : List ClockEdge) (s : State) :
    runUnder (e :: es) s = runUnder es (stepUnder e s) := rfl

theorem step_withEdge (e : ClockEdge) (s : State) : step (s.withEdge e) = .next (stepUnder e s) := step_eq _

@[simp] theorem stepUnder_params (e : ClockEdge) (s : State) : (stepUnder e s).params = s.params :=
  nextState_params _

theorem stepUnder_regs (e : ClockEdge) (s : State) : (stepUnder e s).regs = edgeRegs s.params e s.regs :=
  nextState_regs _

theorem runEdges_eq (es : List ClockEdge) (s : State) : runEdges es s = .next (runUnder es s) := by
  induction es generalizing s with
  | nil => rfl
  | cons e es ih => rw [runEdges, step_withEdge]; exact ih _

@[simp] theorem countAlong_nil (seen : State → State → Bool) (s : State) : countAlong seen [] s = 0 := rfl

theorem countAlong_cons (seen : State → State → Bool) (e : ClockEdge) (es : List ClockEdge) (s : State) :
    countAlong seen (e :: es) s = (seen s (stepUnder e s)).toNat + countAlong seen es (stepUnder e s) := by
  rw [countAlong, step_withEdge]

theorem runUnder_params (es : List ClockEdge) (s : State) : (runUnder es s).params = s.params := by
  induction es generalizing s with
  | nil => rfl
  | cons e es ih => rw [runUnder_cons, ih, stepUnder_params]

/-- Settles O28: a run is a fold of a total function that keeps the parameters (60_exceptions.md R114, R121, R122). -/
theorem everyRunGoesOn : Obligations.EveryRunGoesOn := fun es s => ⟨_, runEdges_eq es s, runUnder_params es s⟩

/-! What a run keeps -/

/-- What no edge of a run changes in the registers, the run does not change. -/
theorem runUnder_keeps {α : Type} (f : Registers → α) {es : List ClockEdge} {s : State}
    (hkeep : ∀ e ∈ es, ∀ r, f (edgeRegs s.params e r) = f r) : f (runUnder es s).regs = f s.regs := by
  induction es generalizing s with
  | nil => rfl
  | cons e es ih =>
    obtain ⟨hhead, htail⟩ := List.forall_mem_cons.mp hkeep
    rw [runUnder_cons, ih (by simpa using htail), stepUnder_regs, hhead]

/-- The filter's registers, which no `TIMER` step touches (42_timer_detector.md R85). -/
def filterOf (r : Registers) : BitVec 6 × BitVec 6 × Bool × BitVec 8 := (r.lpfCount, r.lpfAccum, r.level, r.hystAccum)

theorem filterOf_stepTimer (tick : Tick) (speed : Speed) (r : Registers) :
    filterOf (stepTimer tick speed r) = filterOf r := by
  obtain ⟨hcount, haccum, hlevel, hhyst⟩ := stepTimer_filter tick speed r
  rw [filterOf, hcount, haccum, hlevel, hhyst, filterOf]

theorem filterOf_eq_iff (r r' : Registers) :
    filterOf r = filterOf r' ↔
      r.lpfCount = r'.lpfCount ∧ r.lpfAccum = r'.lpfAccum ∧ r.level = r'.level ∧ r.hystAccum = r'.hystAccum := by
  simp [filterOf]

/-- Settles O33: neither detector touches the other's registers in one step, so none does in a run (43_oscillator.md
R96, R101). -/
theorem unselectedDetectorHolds : Obligations.UnselectedDetectorHolds := by
  refine fun es s => ⟨fun htimer => ⟨_, runEdges_eq es s, ?_⟩, fun hcsync => ⟨_, runEdges_eq es s, ?_⟩⟩
  · refine (filterOf_eq_iff _ _).mp (runUnder_keeps filterOf fun e he r => ?_)
    rw [edgeRegs_of_timer r (htimer e he), filterOf_stepTimer]
  · refine runUnder_keeps Registers.lastDeadline fun e he r => ?_
    rw [edgeRegs_of_csync r (hcsync e he), sampleCsync_lastDeadline]

/-! A reset and the step after it -/

/-- Settles O42: the step finds the reset's registers, and routes with the phase it leaves (70_reset_and_hazards.md
R135). -/
theorem firstTimerStepAfterReset : Obligations.FirstTimerStepAfterReset := by
  rintro ⟨speed, ms⟩ hw s e0 e hreset he
  obtain rfl : ms = stepMs speed := stepMs_of_mem_pairs _ hw
  obtain ⟨htimer, hspeed⟩ := (stepsAtSpeed_iff ..).mp he
  obtain ⟨hrst, hen, _⟩ := (stepsDetector_iff ..).mp htimer
  have hregs : (runUnder [e0, e] s).regs = stepTimer e.inputs.tick speed (resetRegisters e0.inputs.tick) := by
    rw [runUnder_cons, runUnder_cons, runUnder_nil, stepUnder_regs, stepUnder_params, edgeRegs_of_timer _ htimer,
      stepUnder_regs, edgeRegs_of_reset _ hreset, hspeed]
  have hmask (lane : Player) := nextState_mask (s := (stepUnder e0 s).withEdge e) hrst hen lane
  rw [withEdge_params, stepUnder_params] at hmask
  refine ⟨_, runEdges_eq _ s, ?_, hmask .p1, hmask .p2⟩
  have hflip := stepTimer_phase_ne_iff e.inputs.tick speed (resetRegisters e0.inputs.tick)
  rw [State.phaseOut, hregs]
  simpa [resetRegisters] using hflip

/-! The host's own run -/

/-- Two states with the same block: the same registers, parameters and outputs, whatever the environment holds for
the edges to come. -/
structure SameBlock (s u : State) : Prop where
  regs : s.regs = u.regs
  params : s.params = u.params
  decoded : s.env.decoded = u.env.decoded
  mask1 : s.env.mask1 = u.env.mask1
  mask2 : s.env.mask2 = u.env.mask2

theorem sameBlock_withEdge (s : State) (e : ClockEdge) : SameBlock s (s.withEdge e) := ⟨rfl, rfl, rfl, rfl, rfl⟩

theorem SameBlock.trans {s u v : State} (hsu : SameBlock s u) (huv : SameBlock u v) : SameBlock s v :=
  ⟨hsu.regs.trans huv.regs, hsu.params.trans huv.params, hsu.decoded.trans huv.decoded, hsu.mask1.trans huv.mask1,
    hsu.mask2.trans huv.mask2⟩

/-- An edge makes of the block what the block and the edge say (20_memory.md R34). -/
theorem nextState_sameBlock {s u : State} (hblock : SameBlock s u) (hedge : s.env.edge = u.env.edge) :
    SameBlock (nextState s) (nextState u) := by
  obtain ⟨hregs, hparams, hdecoded, hmask1, hmask2⟩ := hblock
  cases hrst : s.env.edge.rst
  · cases hen : s.env.edge.stepEn
    · rw [nextState_of_idle hrst hen, nextState_of_idle (hedge ▸ hrst) (hedge ▸ hen)]
      constructor <;> simpa
    · rw [nextState_of_step hrst hen, nextState_of_step (hedge ▸ hrst) (hedge ▸ hen), runStep_eq, runStep_eq]
      constructor <;> simp [hregs, hparams, hedge, State.inputs]
  · rw [nextState_of_reset hrst, nextState_of_reset (hedge ▸ hrst)]
    constructor <;> simp [hparams, hedge, State.inputs]

/-- A run of one more step goes on from the next state, in any machine behind the host's interface. -/
theorem run_succ_of_step {M : Host.Core} {s t : M.State} (hstep : M.step s = .next t) (k : Nat) :
    M.run (k + 1) s = M.run k t := by
  rw [Host.Core.run, hstep]

theorem core_run_succ (k : Nat) (s : State) : Host.Core.run core (k + 1) s = Host.Core.run core k (nextState s) :=
  run_succ_of_step (M := core) (step_eq s) k

/-- An edge uses up the queue's head. -/
theorem nextState_queue {s : State} {e : ClockEdge} {rest : List ClockEdge} (hqueue : s.env.upcoming = e :: rest) :
    (nextState s).env.edge = e ∧ (nextState s).env.upcoming = rest := by
  have hpass (t : State) (ht : t.env.upcoming = e :: rest) :
      t.passEdge.env.edge = e ∧ t.passEdge.env.upcoming = rest := by
    rw [passEdge_cons t e ht]; exact ⟨rfl, rfl⟩
  unfold nextState
  split
  · exact hpass _ hqueue
  · split
    · exact hpass _ hqueue
    · exact hpass _ hqueue

/-- The host's run of queued edges and the run that presents them keep the same block, edge by edge. -/
theorem core_run_sameBlock (es rest : List ClockEdge) {s u : State} (hblock : SameBlock s u)
    (hqueue : s.env.edge :: s.env.upcoming = es ++ rest) :
    ∃ t : State, Host.Core.run core es.length s = .next t ∧ SameBlock t (runUnder es u) := by
  induction es generalizing s u with
  | nil => exact ⟨s, rfl, hblock⟩
  | cons e es ih =>
    obtain ⟨hedge, hupcoming⟩ := List.cons_eq_cons.mp hqueue
    have hnext : SameBlock (nextState s) (stepUnder e u) :=
      nextState_sameBlock (hblock.trans (sameBlock_withEdge u e)) hedge
    rw [List.length_cons, core_run_succ, runUnder_cons]
    cases hes : es ++ rest with
    | nil =>
      obtain ⟨rfl, _⟩ := List.append_eq_nil_iff.mp hes
      exact ⟨_, rfl, hnext⟩
    | cons e' rest' =>
      obtain ⟨hedge', hupcoming'⟩ := nextState_queue (hupcoming.trans hes)
      exact ih hnext (by rw [hedge', hupcoming', hes])

/-- A loaded script stands before what was queued, and the block is untouched (log entry 13). -/
theorem loadScript_eq (script : Stimulus) (s : State) :
    (s.loadScript script).env.edge :: (s.loadScript script).env.upcoming =
      expandScript script s.env.edge.inputs.tick ++ s.env.edge :: s.env.upcoming ∧
    (s.loadScript script).regs = s.regs ∧ (s.loadScript script).params = s.params := by
  unfold State.loadScript
  split
  next hnil => simp at hnil
  next e rest hcons => exact ⟨hcons.symm, rfl, rfl⟩

/-- Settles O34: the two runs keep the same block, and a script is queued in front (30_encoding.md R62). -/
theorem queuedRunIsPresentedRun : Obligations.QueuedRunIsPresentedRun := by
  refine ⟨fun es rest s hqueue => ?_, loadScript_eq⟩
  obtain ⟨t, hrun, hregs, hparams, hdecoded, hmask1, hmask2⟩ :=
    core_run_sameBlock es rest ⟨rfl, rfl, rfl, rfl, rfl⟩ hqueue
  exact ⟨t, _, hrun, runEdges_eq es s, hregs, hparams, hdecoded, hmask1, hmask2⟩

end Sys2Proof.Runs

/-! PROOFS. Runs of the `CSYNC` detector (41_csync_detector.md R72 to R84): each law is an account of one call that is
added up along the run. -/

namespace Sys2Proof.CsyncRuns

open Machine CsyncDetector Operations ClockEdges Runs

section
variable {s : State} {e : ClockEdge} (he : stepsDetector s.params .csync e = true)
include he

theorem stepUnder_regs_of_csync :
    (stepUnder e s).regs = sampleCsync e.inputs.syncIn (decodeConfig s.params e.inputs.sw).speed s.regs := by
  rw [stepUnder_regs, edgeRegs_of_csync _ he]

theorem levelFell_stepUnder :
    levelFell s (stepUnder e s) =
      fallingEdge s.regs.level
        (sampleCsync e.inputs.syncIn (decodeConfig s.params e.inputs.sw).speed s.regs).level := by
  rw [← stepUnder_regs_of_csync he]; rfl

theorem phaseFlipped_stepUnder :
    phaseFlipped s (stepUnder e s) =
      (s.regs.phase != (sampleCsync e.inputs.syncIn (decodeConfig s.params e.inputs.sw).speed s.regs).phase) := by
  rw [← stepUnder_regs_of_csync he]; rfl

end

/-! The divider -/

/-- The divider's account of one call: an edge puts in 2, a flip takes the threshold out, and less than the threshold
stays (41_csync_detector.md R75, R81). -/
theorem sampleCsync_divider (b : Bool) (speed : Speed) {r : Registers} (hlt : r.hystAccum.toNat < threshold speed) :
    r.hystAccum.toNat + 2 * (fallingEdge r.level (sampleCsync b speed r).level).toNat =
      (sampleCsync b speed r).hystAccum.toNat + threshold speed * (r.phase != (sampleCsync b speed r).phase).toNat ∧
    (sampleCsync b speed r).hystAccum.toNat < threshold speed := by
  rcases sampleCsync_edge_or_hold b speed r with ⟨_, hlevel, h⟩ | ⟨hnoEdge, hhyst, hphase⟩
  · have hbounds := threshold_bounds speed
    have haccum := hysteresis_hystAccum speed r
    rw [h, hlevel]
    rcases hysteresis_cases speed r with ⟨hreached, hflip⟩ | ⟨hbelow, hstay⟩
    · rw [if_pos hreached] at haccum
      have hphase : (r.phase != (hysteresis speed r).phase) = true := by simp [hflip]
      simp only [haccum, hphase, fallingEdge, Bool.not_false, Bool.and_self, Bool.toNat_true]
      omega
    · rw [if_neg (Nat.not_le.mpr hbelow)] at haccum
      have hphase : (r.phase != (hysteresis speed r).phase) = false := by simp [hstay]
      simp only [haccum, hphase, fallingEdge, Bool.not_false, Bool.and_self, Bool.toNat_true, Bool.toNat_false]
      omega
  · rw [hnoEdge, hhyst, hphase]
    simpa using hlt

/-- The account added up along a run. -/
theorem divider_along (speed : Speed) (es : List ClockEdge) (s : State)
    (hes : ∀ e ∈ es, stepsAtSpeed s.params .csync speed e = true) (hlt : s.regs.hystAccum.toNat < threshold speed) :
    s.regs.hystAccum.toNat + 2 * countAlong levelFell es s =
      (runUnder es s).regs.hystAccum.toNat + threshold speed * countAlong phaseFlipped es s ∧
    (runUnder es s).regs.hystAccum.toNat < threshold speed := by
  induction es generalizing s with
  | nil => simpa using hlt
  | cons e es ih =>
    obtain ⟨hhead, htail⟩ := List.forall_mem_cons.mp hes
    obtain ⟨he, rfl⟩ := (stepsAtSpeed_iff ..).mp hhead
    obtain ⟨hcall, hlt'⟩ := sampleCsync_divider e.inputs.syncIn _ hlt
    rw [← levelFell_stepUnder he, ← phaseFlipped_stepUnder he, ← stepUnder_regs_of_csync he] at hcall
    rw [← stepUnder_regs_of_csync he] at hlt'
    obtain ⟨hrest, hend⟩ := ih (stepUnder e s) (by simpa using htail) hlt'
    rw [countAlong_cons, countAlong_cons, runUnder_cons]
    exact ⟨by linarith, hend⟩

/-- Settles O36: the account determines quotient and remainder (41_csync_detector.md R81). -/
theorem dividerLaw : Obligations.DividerLaw := by
  rintro ⟨speed, t⟩ hw es s hes hlt
  obtain rfl : t = threshold speed := threshold_of_mem_pairs _ hw
  obtain ⟨hsum, hend⟩ := divider_along speed es s hes hlt
  obtain ⟨hflips, haccum⟩ := (Nat.div_mod_unique (Nat.zero_lt_of_lt hlt)).mpr ⟨hsum.symm, hend⟩
  exact ⟨_, runEdges_eq es s, hflips.symm, haccum.symm⟩

/-! The distance between edges -/

/-- In a `CSYNC` step the phase flips only at a qualifying edge. -/
theorem phaseFlipped_le_levelFell {s : State} {e : ClockEdge} (he : stepsDetector s.params .csync e = true) :
    (phaseFlipped s (stepUnder e s)).toNat ≤ (levelFell s (stepUnder e s)).toNat := by
  rw [phaseFlipped_stepUnder he, levelFell_stepUnder he]
  rcases sampleCsync_edge_or_hold e.inputs.syncIn (decodeConfig s.params e.inputs.sw).speed s.regs with
    ⟨_, hlevel, h⟩ | ⟨_, _, hphase⟩
  · rw [h, hlevel]
    exact Bool.toNat_le _
  · simp [hphase]

theorem countAlong_phaseFlipped_le (es : List ClockEdge) (s : State)
    (hes : ∀ e ∈ es, stepsDetector s.params .csync e = true) :
    countAlong phaseFlipped es s ≤ countAlong levelFell es s := by
  induction es generalizing s with
  | nil => exact le_rfl
  | cons e es ih =>
    obtain ⟨he, htail⟩ := List.forall_mem_cons.mp hes
    rw [countAlong_cons, countAlong_cons]
    exact Nat.add_le_add (phaseFlipped_le_levelFell he) (ih _ (by simpa using htail))

/-- No qualifying edge can come in the next `n` calls: they close no window, or the level is 0 and they close one
(41_csync_detector.md R84 case 5). -/
def Quiet (n : Nat) (r : Registers) : Prop :=
  r.lpfCount.toNat + n ≤ 47 ∨ (r.level = false ∧ r.lpfCount.toNat ≤ 47 ∧ r.lpfCount.toNat + n ≤ 95)

theorem sampleCsync_quiet (b : Bool) (speed : Speed) {n : Nat} {r : Registers} (hquiet : Quiet (n + 1) r) :
    fallingEdge r.level (sampleCsync b speed r).level = false ∧ Quiet n (sampleCsync b speed r) := by
  by_cases hopen : r.lpfCount.toNat < 47
  · rw [Quiet, sampleCsync_open_level b speed hopen, sampleCsync_open_lpfCount b speed hopen]
    refine ⟨by simp [fallingEdge], ?_⟩
    rcases hquiet with hnone | ⟨hlevel, _, hone⟩
    · exact .inl (by omega)
    · exact .inr ⟨hlevel, by omega, by omega⟩
  · rcases hquiet with hnone | ⟨hlevel, hle, hone⟩
    · omega
    · obtain ⟨_, hcleared⟩ := sampleCsync_close_counters b speed (Nat.not_lt.mp hopen)
      have hrest : n ≤ 47 := by omega
      exact ⟨by simp [fallingEdge, hlevel], .inl (by simpa [hcleared] using hrest)⟩

theorem countAlong_levelFell_of_quiet (es : List ClockEdge) (s : State)
    (hes : ∀ e ∈ es, stepsDetector s.params .csync e = true) (hquiet : Quiet es.length s.regs) :
    countAlong levelFell es s = 0 := by
  induction es generalizing s with
  | nil => rfl
  | cons e es ih =>
    obtain ⟨he, htail⟩ := List.forall_mem_cons.mp hes
    obtain ⟨hnoEdge, hquiet'⟩ := sampleCsync_quiet e.inputs.syncIn _ hquiet
    rw [← levelFell_stepUnder he] at hnoEdge
    rw [← stepUnder_regs_of_csync he] at hquiet'
    rw [countAlong_cons, hnoEdge, ih _ (by simpa using htail) hquiet']
    rfl

/-- The level falls only in a `CSYNC` step that closes a window, which leaves the count and the level 0
(41_csync_detector.md R74, R77, R78). -/
theorem window_empty_of_levelFell {s : State} (hrst : s.env.edge.rst = false)
    (hfell : levelFell s (nextState s) = true) :
    (nextState s).regs.lpfCount = 0 ∧ (nextState s).regs.level = false := by
  have hlevel : (fallingEdge s.regs.level (edgeRegs s.params s.env.edge s.regs).level) = true := by
    rw [← nextState_regs]; exact hfell
  rw [nextState_regs]
  rcases edge_kinds s.params s.env.edge with hreset | hcsync | htimer | ⟨_, hidle⟩
  · simp [hrst] at hreset
  · rw [edgeRegs_of_csync _ hcsync] at hlevel ⊢
    rcases sampleCsync_edge_or_hold s.env.edge.inputs.syncIn _ s.regs with ⟨_, _, h⟩ | ⟨hnoEdge, _, _⟩
    · rw [h]; exact ⟨rfl, rfl⟩
    · rw [hnoEdge] at hlevel; simp at hlevel
  · obtain ⟨_, _, hkept, _⟩ :=
      stepTimer_filter s.env.edge.inputs.tick (decodeConfig s.params s.env.edge.inputs.sw).speed s.regs
    rw [edgeRegs_of_timer _ htimer, hkept] at hlevel
    simp [fallingEdge] at hlevel
  · rw [edgeRegs_of_idle _ hrst hidle] at hlevel
    simp [fallingEdge] at hlevel

/-- Settles O37: an edge or a reset leaves an empty window and level 0, from which 95 calls close one window and raise
the level at most once (41_csync_detector.md R84 case 5, 70_reset_and_hazards.md R135). -/
theorem edgesAreTwoWindowsApart : Obligations.EdgesAreTwoWindowsApart := by
  refine ⟨fun s => ⟨_, step_eq s, fun hcause => ?_⟩, fun es s hcount hlevel hes hlen => ?_⟩
  · cases hrst : s.env.edge.rst
    · exact window_empty_of_levelFell hrst (hcause.resolve_left (by simp [hrst]))
    · rw [nextState_regs, edgeRegs_of_reset _ hrst]
      exact ⟨rfl, rfl⟩
  · have hquiet : Quiet es.length s.regs := .inr ⟨hlevel, by simp [hcount], by simpa [hcount] using hlen⟩
    have hfalls := countAlong_levelFell_of_quiet es s hes hquiet
    exact ⟨hfalls, Nat.le_zero.mp (hfalls ▸ countAlong_phaseFlipped_le es s hes)⟩

/-! A constant line -/

/-- All samples of the open window equal `line` (41_csync_detector.md R83). -/
def Tracks (line : Bool) (r : Registers) : Prop :=
  r.lpfCount.toNat ≤ 47 ∧ r.lpfAccum.toNat = line.toNat * r.lpfCount.toNat

/-- With the line constant one call can only use up what can still fall: the level, on a low line. -/
theorem sampleCsync_tracks (line : Bool) (speed : Speed) {r : Registers} (htracks : Tracks line r) :
    Tracks line (sampleCsync line speed r) ∧
    (fallingEdge r.level (sampleCsync line speed r).level).toNat + ((sampleCsync line speed r).level && !line).toNat ≤
      (r.level && !line).toNat := by
  obtain ⟨hcount, haccum⟩ := htracks
  have hline := line.toNat_le
  by_cases hopen : r.lpfCount.toNat < 47
  · have hle : r.lpfAccum.toNat ≤ r.lpfCount.toNat := by
      rw [haccum]; exact mul_le_of_le_one_left (Nat.zero_le _) hline
    rw [Tracks, sampleCsync_open_lpfCount line speed hopen, sampleCsync_open_lpfAccum line speed hopen hle,
      sampleCsync_open_level line speed hopen, haccum]
    exact ⟨⟨hopen, by ring⟩, by simp [fallingEdge]⟩
  · have hclose : 47 ≤ r.lpfCount.toNat := Nat.not_lt.mp hopen
    obtain ⟨haccum', hcount'⟩ := sampleCsync_close_counters line speed hclose
    have hlevel : (sampleCsync line speed r).level = line := by
      rw [sampleCsync_close_level line speed hclose, haccum]
      cases line
      · simp
      · simpa using by omega
    refine ⟨by simp [Tracks, haccum', hcount'], ?_⟩
    rw [hlevel]
    cases line <;> simp [fallingEdge]

theorem countAlong_levelFell_of_tracks (line : Bool) (es : List ClockEdge) (s : State)
    (hes : ∀ e ∈ es, stepsDetector s.params .csync e = true ∧ e.inputs.syncIn = line) (htracks : Tracks line s.regs) :
    countAlong levelFell es s ≤ (s.regs.level && !line).toNat := by
  induction es generalizing s with
  | nil => exact Nat.zero_le _
  | cons e es ih =>
    obtain ⟨⟨he, rfl⟩, htail⟩ := List.forall_mem_cons.mp hes
    obtain ⟨htracks', hcall⟩ := sampleCsync_tracks e.inputs.syncIn (decodeConfig s.params e.inputs.sw).speed htracks
    rw [← levelFell_stepUnder he, ← stepUnder_regs_of_csync he] at hcall
    rw [← stepUnder_regs_of_csync he] at htracks'
    have hrest := ih (stepUnder e s) (by simpa using htail) htracks'
    rw [countAlong_cons]
    omega

/-- Settles O38: the level can fall once on a low line and not at all on a high one, and each flip needs a fall
(41_csync_detector.md R83). -/
theorem constantLineSettles : Obligations.ConstantLineSettles := by
  intro line es s hcount haccum hes
  have hfalls := countAlong_levelFell_of_tracks line es s hes (by simp [Tracks, hcount, haccum])
  have hflips := countAlong_phaseFlipped_le es s fun e he => (hes e he).1
  have hone := Bool.toNat_le (s.regs.level && !line)
  refine ⟨hfalls.trans hone, hflips.trans (hfalls.trans hone), ?_⟩
  rintro rfl
  rw [Bool.not_true, Bool.and_false, Bool.toNat_false, Nat.le_zero] at hfalls
  exact ⟨hfalls, Nat.le_zero.mp (hfalls ▸ hflips)⟩

/-! The vote -/

/-- An edge that is neither a reset nor a `CSYNC` step leaves the filter as it was (41_csync_detector.md R84 case
6). -/
theorem edgeRegs_keeps_filter {p : DecoderParams} {e : ClockEdge} (r : Registers) (hrst : e.rst = false)
    (hother : ¬ stepsDetector p .csync e = true) : filterOf (edgeRegs p e r) = filterOf r := by
  rcases edge_kinds p e with hreset | hcsync | htimer | ⟨_, hidle⟩
  · simp [hrst] at hreset
  · exact absurd hcsync hother
  · rw [edgeRegs_of_timer _ htimer, filterOf_stepTimer]
  · rw [edgeRegs_of_idle _ hrst hidle]

/-- A run with no reset and no `CSYNC` step leaves the filter as it was. -/
theorem runUnder_keeps_filter {es : List ClockEdge} {s : State} (hrst : ∀ e ∈ es, e.rst = false)
    (hnone : es.filter (stepsDetector s.params .csync) = []) : filterOf (runUnder es s).regs = filterOf s.regs :=
  runUnder_keeps filterOf fun e he r => edgeRegs_keeps_filter r (hrst e he) (List.filter_eq_nil_iff.mp hnone e he)

/-- From a window with some samples taken, the run that brings the missing ones ends with the vote over all of
them. -/
theorem vote_along (es : List ClockEdge) (s : State) (hcount : s.regs.lpfCount.toNat ≤ 47)
    (haccum : s.regs.lpfAccum.toNat ≤ s.regs.lpfCount.toNat) (hrst : ∀ e ∈ es, e.rst = false)
    (hlen : s.regs.lpfCount.toNat + (es.filter (stepsDetector s.params .csync)).length = 48) :
    (runUnder es s).regs.lpfCount = 0 ∧ (runUnder es s).regs.lpfAccum = 0 ∧
    (runUnder es s).regs.level = decide (24 ≤ s.regs.lpfAccum.toNat +
      (es.filter (stepsDetector s.params .csync)).countP fun e => e.inputs.syncIn) := by
  induction es generalizing s with
  | nil => simp at hlen; omega
  | cons e es ih =>
    obtain ⟨hrstHead, hrstTail⟩ := List.forall_mem_cons.mp hrst
    have ih' := ih (stepUnder e s)
    rw [stepUnder_params] at ih'
    rw [runUnder_cons]
    by_cases he : stepsDetector s.params .csync e = true
    · have hregs := stepUnder_regs_of_csync he
      rw [List.filter_cons_of_pos he, List.length_cons] at hlen
      rw [List.filter_cons_of_pos he, List.countP_cons]
      have hbit : (if e.inputs.syncIn = true then 1 else 0) = e.inputs.syncIn.toNat := by
        cases e.inputs.syncIn <;> rfl
      have hbitLe := e.inputs.syncIn.toNat_le
      by_cases hopen : s.regs.lpfCount.toNat < 47
      · rw [hregs, sampleCsync_open_lpfCount _ _ hopen, sampleCsync_open_lpfAccum _ _ hopen haccum] at ih'
        rw [hbit, Nat.add_comm (List.countP ..), ← Nat.add_assoc]
        exact ih' (by omega) (by omega) hrstTail (by omega)
      · have hclose := Nat.not_lt.mp hopen
        have hnone : es.filter (stepsDetector s.params .csync) = [] := List.eq_nil_of_length_eq_zero (by omega)
        obtain ⟨hcount', haccum', hlevel', _⟩ :=
          (filterOf_eq_iff _ _).mp (runUnder_keeps_filter (s := stepUnder e s) hrstTail (by simpa using hnone))
        obtain ⟨haccumClosed, hcountClosed⟩ := sampleCsync_close_counters e.inputs.syncIn _ hclose
        rw [hcount', haccum', hlevel', hregs, sampleCsync_close_level _ _ hclose, hnone, hbit, List.countP_nil,
          Nat.zero_add]
        exact ⟨hcountClosed, haccumClosed, rfl⟩
    · obtain ⟨hcount', haccum', _, _⟩ :=
        (filterOf_eq_iff _ _).mp ((congrArg filterOf (stepUnder_regs e s)).trans
          (edgeRegs_keeps_filter s.regs hrstHead he))
      rw [List.filter_cons_of_neg he] at hlen ⊢
      rw [hcount', haccum'] at ih'
      exact ih' hcount haccum hrstTail hlen

/-- Settles O35: the run from an empty window (41_csync_detector.md R72, R73). -/
theorem windowVoteIsMajority : Obligations.WindowVoteIsMajority := by
  intro es s hcount haccum hrst hlen
  have hvote := vote_along es s (by simp [hcount]) (by simp [haccum]) hrst (by simpa [hcount] using hlen)
  rw [haccum] at hvote
  exact ⟨_, runEdges_eq es s, by simpa using hvote⟩

end Sys2Proof.CsyncRuns

/-! PROOFS. Runs of the `TIMER` detector (42_timer_detector.md R90, R91): the counts that pass are what the flips take
away and what is left in the window. -/

namespace Sys2Proof.TimerRuns

open Machine TimerDetector Operations ClockEdges Runs

section
variable {s : State} {speed : Speed} {e : ClockEdge} (he : stepsAtSpeed s.params .timer speed e = true)
include he

theorem stepUnder_regs_of_timer : (stepUnder e s).regs = stepTimer e.inputs.tick speed s.regs := by
  obtain ⟨htimer, rfl⟩ := (stepsAtSpeed_iff ..).mp he
  rw [stepUnder_regs, edgeRegs_of_timer _ htimer]

/-- One `TIMER` step, as a run sees it: no flip inside the window, and outside it a flip that takes one step size
from the distance (42_timer_detector.md R88, R90). -/
theorem timer_stepUnder_cases :
    ((e.inputs.tick - s.regs.lastDeadline).toNat < stepMs speed ∧ phaseFlipped s (stepUnder e s) = false ∧
      (stepUnder e s).regs.lastDeadline = s.regs.lastDeadline) ∨
    (stepMs speed ≤ (e.inputs.tick - s.regs.lastDeadline).toNat ∧ phaseFlipped s (stepUnder e s) = true ∧
      (stepUnder e s).regs.lastDeadline = s.regs.lastDeadline + stepTicks speed ∧
      (e.inputs.tick - (stepUnder e s).regs.lastDeadline).toNat =
        (e.inputs.tick - s.regs.lastDeadline).toNat - stepMs speed) := by
  have hregs := stepUnder_regs_of_timer he
  rcases stepTimer_cases e.inputs.tick speed s.regs with ⟨hinside, h⟩ | ⟨houtside, h⟩
  · rw [h] at hregs
    exact .inl ⟨hinside, by simp [phaseFlipped, hregs], by rw [hregs]⟩
  · rw [h] at hregs
    refine .inr ⟨houtside, by simp [phaseFlipped, hregs], by rw [hregs], ?_⟩
    have hle : stepTicks speed ≤ e.inputs.tick - s.regs.lastDeadline := by
      rw [BitVec.le_def, stepTicks_toNat]; exact houtside
    rw [hregs, sub_add_eq_sub_sub, BitVec.toNat_sub_of_le hle, stepTicks_toNat]

end

/-- Over any run at one speed the deadline moves by one step size per flip, whatever the ticks are
(42_timer_detector.md R88). -/
theorem lastDeadline_along (speed : Speed) (es : List ClockEdge) (s : State)
    (hes : ∀ e ∈ es, stepsAtSpeed s.params .timer speed e = true) :
    (runUnder es s).regs.lastDeadline =
      s.regs.lastDeadline + BitVec.ofNat 16 (stepMs speed * countAlong phaseFlipped es s) := by
  induction es generalizing s with
  | nil => simp
  | cons e es ih =>
    obtain ⟨he, htail⟩ := List.forall_mem_cons.mp hes
    rw [runUnder_cons, ih _ (by simpa using htail), countAlong_cons]
    rcases timer_stepUnder_cases he with ⟨_, hflip, hdeadline⟩ | ⟨_, hflip, hdeadline, _⟩
    · rw [hflip, hdeadline, Bool.toNat_false, Nat.zero_add]
    · rw [hflip, hdeadline, Bool.toNat_true, Nat.mul_add, Nat.mul_one, BitVec.ofNat_add, ← BitVec.add_assoc,
        stepTicks]

/-! A standing tick -/

theorem flips_of_standing_tick (speed : Speed) (now : Tick) (es : List ClockEdge) (s : State)
    (hes : ∀ e ∈ es, stepsAtSpeed s.params .timer speed e = true ∧ e.inputs.tick = now) :
    countAlong phaseFlipped es s = min es.length ((now - s.regs.lastDeadline).toNat / stepMs speed) := by
  induction es generalizing s with
  | nil => simp
  | cons e es ih =>
    obtain ⟨⟨he, rfl⟩, htail⟩ := List.forall_mem_cons.mp hes
    have hpos : 0 < stepMs speed := Nat.zero_lt_of_lt (stepMs_bounds speed).1
    rw [countAlong_cons, ih _ (by simpa using htail), List.length_cons]
    rcases timer_stepUnder_cases he with ⟨hinside, hflip, hdeadline⟩ | ⟨houtside, hflip, _, hdistance⟩
    · rw [hflip, hdeadline, Nat.div_eq_of_lt hinside]
      simp
    · rw [hflip, hdistance, Nat.div_eq_sub_div hpos houtside, Nat.add_min_add_right, Bool.toNat_true, Nat.add_comm]

/-- Settles O40: the flips by the distance used up, the deadline by the flips (42_timer_detector.md R90). -/
theorem timerCatchesUpOneFlipPerCall : Obligations.TimerCatchesUpOneFlipPerCall := by
  rintro ⟨speed, ms⟩ hw es s now hes
  obtain rfl : ms = stepMs speed := stepMs_of_mem_pairs _ hw
  exact ⟨_, runEdges_eq es s, flips_of_standing_tick speed now es s hes,
    lastDeadline_along speed es s fun e he => (hes e he).1⟩

/-! A tick that skips no value -/

/-- The timer's account of one call under `TickNoSkip`: the counts before it and its advance are what its flip takes
away and what is left, which is again inside the window (42_timer_detector.md R91). -/
theorem interval_step {s : State} {speed : Speed} {e : ClockEdge} {t0 : Tick}
    (he : stepsAtSpeed s.params .timer speed e = true) (hinside : (t0 - s.regs.lastDeadline).toNat < stepMs speed)
    (hadvance : (e.inputs.tick - t0).toNat ≤ 1) :
    (t0 - s.regs.lastDeadline).toNat + (e.inputs.tick - t0).toNat =
      stepMs speed * (phaseFlipped s (stepUnder e s)).toNat +
        (e.inputs.tick - (stepUnder e s).regs.lastDeadline).toNat ∧
    (e.inputs.tick - (stepUnder e s).regs.lastDeadline).toNat < stepMs speed := by
  have hbounds := stepMs_bounds speed
  have hdistance := toNat_sub_add_toNat_sub (deadline := s.regs.lastDeadline) (t0 := t0) (tick := e.inputs.tick)
    (by omega)
  rcases timer_stepUnder_cases he with ⟨hinside', hflip, hdeadline⟩ | ⟨houtside, hflip, _, hrest⟩
  · rw [hflip, hdeadline, Bool.toNat_false]
    omega
  · rw [hflip, hrest, Bool.toNat_true]
    omega

/-- The account added up along a run, across any number of wraps. -/
theorem interval_along (speed : Speed) (es : List ClockEdge) (s : State) (t0 : Tick)
    (hes : ∀ e ∈ es, stepsAtSpeed s.params .timer speed e = true) (hticks : TickNoSkip t0 (ticksOf es))
    (hinside : (t0 - s.regs.lastDeadline).toNat < stepMs speed) :
    (t0 - s.regs.lastDeadline).toNat + totalAdvance t0 (ticksOf es) =
      stepMs speed * countAlong phaseFlipped es s +
        ((ticksOf es).getLastD t0 - (runUnder es s).regs.lastDeadline).toNat ∧
    ((ticksOf es).getLastD t0 - (runUnder es s).regs.lastDeadline).toNat < stepMs speed := by
  induction es generalizing s t0 with
  | nil => exact ⟨by simp [ticksOf, totalAdvance], hinside⟩
  | cons e es ih =>
    obtain ⟨he, htail⟩ := List.forall_mem_cons.mp hes
    obtain ⟨hadvance, hticks'⟩ := hticks
    obtain ⟨hcall, hinside'⟩ := interval_step he hinside hadvance
    obtain ⟨hrest, hend⟩ := ih (stepUnder e s) e.inputs.tick (by simpa using htail) hticks' hinside'
    have htotal : totalAdvance t0 (ticksOf (e :: es)) =
        (e.inputs.tick - t0).toNat + totalAdvance e.inputs.tick (ticksOf es) := rfl
    have hlast : (ticksOf (e :: es)).getLastD t0 = (ticksOf es).getLastD e.inputs.tick := List.getLastD_cons
    rw [runUnder_cons, countAlong_cons, htotal, hlast]
    exact ⟨by linarith, hend⟩

/-- Settles O39: the account determines quotient and remainder (42_timer_detector.md R91). -/
theorem timerIntervalLaw : Obligations.TimerIntervalLaw := by
  rintro ⟨speed, ms⟩ hw es s t0 hes hticks hinside
  obtain rfl : ms = stepMs speed := stepMs_of_mem_pairs _ hw
  obtain ⟨hsum, hend⟩ := interval_along speed es s t0 hes hticks hinside
  obtain ⟨hflips, hrest⟩ := (Nat.div_mod_unique (Nat.zero_lt_of_lt hend)).mpr ⟨(Nat.add_comm _ _).trans hsum.symm, hend⟩
  exact ⟨_, runEdges_eq es s, hflips.symm, lastDeadline_along speed es s hes, hrest.symm⟩

end Sys2Proof.TimerRuns
